-- ==== Sys2Proof/Word.lean ====
section
/-!
DEFINITION. The two word types of the block.
Every value is an unsigned byte or an unsigned 16-bit word (00_scope.md R6, 40_alu_routines.md R87).
-/

namespace Sys2Proof

/-- `u8`: an 8-bit value, bit 0 least significant (R6). -/
abbrev Byte := BitVec 8

/-- `u16`: a 16-bit value, bit 0 least significant (R6). -/
abbrev Word := BitVec 16

end Sys2Proof
end

