-- ==== Sys2Proof/Config.lean ====
section
/-!
DEFINITION. The parameters of the block that are configuration and not state (00_scope.md R5, 10_state.md R20).
The widths are the types of Word.lean, the implemented set is the decoder, and `IMAGE` is an argument
of `Machine.State.loadImage`.
Nothing in a step is left open by the spec (00_scope.md R11), so there is no free value here.
-/

namespace Sys2Proof

/-- `ESC`, the escape byte that enters the second opcode table (R5, 30_encoding.md R66; UNVERIFIED, log 1). -/
def Config.esc : Byte := 0xCB#8

/-- `MEM_SIZE`: the address space is exactly the 16-bit address range (R5, 20_memory.md R40). -/
def Config.memSize : Nat := 65536

/-- `RESET_MEM`: the byte every location holds until something stores to it (R5, 10_state.md R35). -/
def Config.resetMem : Byte := 0x00#8

end Sys2Proof
end

