-- ==== Sys2Proof/Syntax.lean ====
section
/-!
DEFINITION. The instructions: one constructor for each of the 134 rows of opcode_table.json (30_encoding.md R65, R74).
A row is one value of the first byte, so its register operands are fixed by the constructor's name.
An immediate operand (R62, R63) is an argument, and `AtHl` in a name is the operand `(HL)`.
-/

namespace Sys2Proof

/-- One constructor per row of the opcode table. -/
inductive Instr where
  /-- NOP (0x00, R133). -/
  | nop
  /-- LD BC,d16 (0x01, R125). -/
  | ldBcD16 (d16 : Word)
  /-- INC B (0x04, R110). -/
  | incB
  /-- DEC B (0x05, R112). -/
  | decB
  /-- LD B,d8 (0x06, R123). -/
  | ldBD8 (d8 : Byte)
  /-- RLCA (0x07, R116). -/
  | rlca
  /-- ADD HL,BC (0x09, R114). -/
  | addHlBc
  /-- INC C (0x0C, R110). -/
  | incC
  /-- DEC C (0x0D, R112). -/
  | decC
  /-- LD C,d8 (0x0E, R123). -/
  | ldCD8 (d8 : Byte)
  /-- LD DE,d16 (0x11, R125). -/
  | ldDeD16 (d16 : Word)
  /-- INC D (0x14, R110). -/
  | incD
  /-- DEC D (0x15, R112). -/
  | decD
  /-- LD D,d8 (0x16, R123). -/
  | ldDD8 (d8 : Byte)
  /-- ADD HL,DE (0x19, R114). -/
  | addHlDe
  /-- INC E (0x1C, R110). -/
  | incE
  /-- DEC E (0x1D, R112). -/
  | decE
  /-- LD E,d8 (0x1E, R123). -/
  | ldED8 (d8 : Byte)
  /-- LD HL,d16 (0x21, R125). -/
  | ldHlD16 (d16 : Word)
  /-- INC H (0x24, R110). -/
  | incH
  /-- DEC H (0x25, R112). -/
  | decH
  /-- LD H,d8 (0x26, R123). -/
  | ldHD8 (d8 : Byte)
  /-- ADD HL,HL (0x29, R114). -/
  | addHlHl
  /-- INC L (0x2C, R110). -/
  | incL
  /-- DEC L (0x2D, R112). -/
  | decL
  /-- LD L,d8 (0x2E, R123). -/
  | ldLD8 (d8 : Byte)
  /-- LD SP,d16 (0x31, R126). -/
  | ldSpD16 (d16 : Word)
  /-- INC (HL) (0x34, R111). -/
  | incAtHl
  /-- DEC (HL) (0x35, R113). -/
  | decAtHl
  /-- LD (HL),d8 (0x36, R124). -/
  | ldAtHlD8 (d8 : Byte)
  /-- ADD HL,SP (0x39, R115). -/
  | addHlSp
  /-- INC A (0x3C, R110). -/
  | incA
  /-- DEC A (0x3D, R112). -/
  | decA
  /-- LD A,d8 (0x3E, R123). -/
  | ldAD8 (d8 : Byte)
  /-- LD B,B (0x40, R120). -/
  | ldBB
  /-- LD B,C (0x41, R120). -/
  | ldBC
  /-- LD B,D (0x42, R120). -/
  | ldBD
  /-- LD B,E (0x43, R120). -/
  | ldBE
  /-- LD B,H (0x44, R120). -/
  | ldBH
  /-- LD B,L (0x45, R120). -/
  | ldBL
  /-- LD B,(HL) (0x46, R121). -/
  | ldBAtHl
  /-- LD B,A (0x47, R120). -/
  | ldBA
  /-- LD C,B (0x48, R120). -/
  | ldCB
  /-- LD C,C (0x49, R120). -/
  | ldCC
  /-- LD C,D (0x4A, R120). -/
  | ldCD
  /-- LD C,E (0x4B, R120). -/
  | ldCE
  /-- LD C,H (0x4C, R120). -/
  | ldCH
  /-- LD C,L (0x4D, R120). -/
  | ldCL
  /-- LD C,(HL) (0x4E, R121). -/
  | ldCAtHl
  /-- LD C,A (0x4F, R120). -/
  | ldCA
  /-- LD D,B (0x50, R120). -/
  | ldDB
  /-- LD D,C (0x51, R120). -/
  | ldDC
  /-- LD D,D (0x52, R120). -/
  | ldDD
  /-- LD D,E (0x53, R120). -/
  | ldDE
  /-- LD D,H (0x54, R120). -/
  | ldDH
  /-- LD D,L (0x55, R120). -/
  | ldDL
  /-- LD D,(HL) (0x56, R121). -/
  | ldDAtHl
  /-- LD D,A (0x57, R120). -/
  | ldDA
  /-- LD E,B (0x58, R120). -/
  | ldEB
  /-- LD E,C (0x59, R120). -/
  | ldEC
  /-- LD E,D (0x5A, R120). -/
  | ldED
  /-- LD E,E (0x5B, R120). -/
  | ldEE
  /-- LD E,H (0x5C, R120). -/
  | ldEH
  /-- LD E,L (0x5D, R120). -/
  | ldEL
  /-- LD E,(HL) (0x5E, R121). -/
  | ldEAtHl
  /-- LD E,A (0x5F, R120). -/
  | ldEA
  /-- LD H,B (0x60, R120). -/
  | ldHB
  /-- LD H,C (0x61, R120). -/
  | ldHC
  /-- LD H,D (0x62, R120). -/
  | ldHD
  /-- LD H,E (0x63, R120). -/
  | ldHE
  /-- LD H,H (0x64, R120). -/
  | ldHH
  /-- LD H,L (0x65, R120). -/
  | ldHL
  /-- LD H,(HL) (0x66, R121). -/
  | ldHAtHl
  /-- LD H,A (0x67, R120). -/
  | ldHA
  /-- LD L,B (0x68, R120). -/
  | ldLB
  /-- LD L,C (0x69, R120). -/
  | ldLC
  /-- LD L,D (0x6A, R120). -/
  | ldLD
  /-- LD L,E (0x6B, R120). -/
  | ldLE
  /-- LD L,H (0x6C, R120). -/
  | ldLH
  /-- LD L,L (0x6D, R120). -/
  | ldLL
  /-- LD L,(HL) (0x6E, R121). -/
  | ldLAtHl
  /-- LD L,A (0x6F, R120). -/
  | ldLA
  /-- LD (HL),B (0x70, R122). -/
  | ldAtHlB
  /-- LD (HL),C (0x71, R122). -/
  | ldAtHlC
  /-- LD (HL),D (0x72, R122). -/
  | ldAtHlD
  /-- LD (HL),E (0x73, R122). -/
  | ldAtHlE
  /-- LD (HL),H (0x74, R122). -/
  | ldAtHlH
  /-- LD (HL),L (0x75, R122). -/
  | ldAtHlL
  /-- LD (HL),A (0x77, R122). -/
  | ldAtHlA
  /-- LD A,B (0x78, R120). -/
  | ldAB
  /-- LD A,C (0x79, R120). -/
  | ldAC
  /-- LD A,D (0x7A, R120). -/
  | ldAD
  /-- LD A,E (0x7B, R120). -/
  | ldAE
  /-- LD A,H (0x7C, R120). -/
  | ldAH
  /-- LD A,L (0x7D, R120). -/
  | ldAL
  /-- LD A,(HL) (0x7E, R121). -/
  | ldAAtHl
  /-- LD A,A (0x7F, R120). -/
  | ldAA
  /-- ADD A,B (0x80, R90). -/
  | addAB
  /-- ADD A,C (0x81, R90). -/
  | addAC
  /-- ADD A,D (0x82, R90). -/
  | addAD
  /-- ADD A,E (0x83, R90). -/
  | addAE
  /-- ADD A,H (0x84, R90). -/
  | addAH
  /-- ADD A,L (0x85, R90). -/
  | addAL
  /-- ADD A,(HL) (0x86, R91). -/
  | addAAtHl
  /-- ADD A,A (0x87, R90). -/
  | addAA
  /-- ADC A,B (0x88, R93). -/
  | adcAB
  /-- ADC A,C (0x89, R93). -/
  | adcAC
  /-- ADC A,D (0x8A, R93). -/
  | adcAD
  /-- ADC A,E (0x8B, R93). -/
  | adcAE
  /-- ADC A,H (0x8C, R93). -/
  | adcAH
  /-- ADC A,L (0x8D, R93). -/
  | adcAL
  /-- ADC A,(HL) (0x8E, R94). -/
  | adcAAtHl
  /-- ADC A,A (0x8F, R93). -/
  | adcAA
  /-- SUB B (0x90, R96). -/
  | subB
  /-- SUB C (0x91, R96). -/
  | subC
  /-- SUB D (0x92, R96). -/
  | subD
  /-- SUB E (0x93, R96). -/
  | subE
  /-- SUB H (0x94, R96). -/
  | subH
  /-- SUB L (0x95, R96). -/
  | subL
  /-- SUB (HL) (0x96, R97). -/
  | subAtHl
  /-- SUB A (0x97, R96). -/
  | subA
  /-- SBC A,B (0x98, R99). -/
  | sbcAB
  /-- SBC A,C (0x99, R99). -/
  | sbcAC
  /-- SBC A,D (0x9A, R99). -/
  | sbcAD
  /-- SBC A,E (0x9B, R99). -/
  | sbcAE
  /-- SBC A,H (0x9C, R99). -/
  | sbcAH
  /-- SBC A,L (0x9D, R99). -/
  | sbcAL
  /-- SBC A,(HL) (0x9E, R100). -/
  | sbcAAtHl
  /-- SBC A,A (0x9F, R99). -/
  | sbcAA
  /-- ADD A,d8 (0xC6, R92). -/
  | addAD8 (d8 : Byte)
  /-- `ESC` and the byte after it: no operation (0xCB, R135, R67). -/
  | prefixCb (opcode2 : Byte)
  /-- ADC A,d8 (0xCE, R95). -/
  | adcAD8 (d8 : Byte)
  /-- SUB d8 (0xD6, R98). -/
  | subD8 (d8 : Byte)
  /-- SBC A,d8 (0xDE, R101). -/
  | sbcAD8 (d8 : Byte)
deriving DecidableEq, Repr

end Sys2Proof
end

