-- ==== Sys2Proof/WellFormed.lean ====
section
/-!
DEFINITION. Well-formed instructions.
-/

namespace Sys2Proof

/-- Every term of `Instr` is well formed: a constructor fixes its opcode byte, its immediate has exactly the
width of its format (30_encoding.md R61 to R63), and no operand value is illegal (60_exceptions.md R154:
"every field value of an implemented opcode has a meaning").  The types leave nothing to check, so this
predicate refuses no term. -/
def Instr.wellFormed (_ : Instr) : Bool := true

/-- The instruction has a defined operation (30_encoding.md R65).  The one row of the table that has none is
the escape byte, which is "not an instruction by itself" (R64, R67). -/
def Instr.isImplemented : Instr → Bool
  | .prefixCb _ => false
  | _ => true

end Sys2Proof
end

