-- ==== Sys2Proof/Decode.lean ====
section
/-!
DEFINITION. Decoder and encoder.
The decoder reads the fields of the opcode byte as 30_encoding.md R64 names them; the encoder lists the opcode
map of R65 byte by byte, so that the two are independent readings of one encoding.
-/

namespace Sys2Proof

/-! ### Bytes and words -/

/-- `{hi, lo}`: concatenation of two bytes (00_scope.md R6). -/
def mkWord (hi lo : Byte) : Word := hi ++ lo

/-- `v[15:8]` (R6). -/
def hiByte (v : Word) : Byte := v.extractLsb' 8 8

/-- `v[7:0]` (R6). -/
def loByte (v : Word) : Byte := v.extractLsb' 0 8

/-- Byte `k` of a number, byte 0 the least significant. -/
def byteOfNat (v k : Nat) : Byte := BitVec.ofNat 8 (v / 2 ^ (8 * k))

/-! ### What the fields of an opcode byte select -/

/-- The seven general 8-bit registers (10_state.md R21). -/
inductive Reg8 where
  | b | c | d | e | h | l | a
deriving DecidableEq, Repr

/-- What a 3-bit register field selects: a register, or for the value 6 the memory byte at HL (10_state.md R25). -/
inductive Loc8 where
  | reg (r : Reg8)
  | atHl
deriving DecidableEq, Repr

/-- An 8-bit source operand: a register, `(HL)`, or an immediate byte (30_encoding.md R69 (a) to (c)). -/
inductive Src8 where
  | loc (l : Loc8)
  | imm (d8 : Byte)
deriving DecidableEq, Repr

/-- What a 2-bit pair field selects (10_state.md R26). -/
inductive Rp where
  | bc | de | hl | sp
deriving DecidableEq, Repr

/-- What the field `oo` selects (30_encoding.md R64). -/
inductive AluOp where
  | add | adc | sub | sbc
deriving DecidableEq, Repr

/-- The 3-bit register field (10_state.md R25). -/
def Loc8.ofField (y : BitVec 3) : Loc8 :=
  match y.toNat with
  | 0 => .reg .b
  | 1 => .reg .c
  | 2 => .reg .d
  | 3 => .reg .e
  | 4 => .reg .h
  | 5 => .reg .l
  | 6 => .atHl
  | _ => .reg .a

/-- The 2-bit pair field (10_state.md R26). -/
def Rp.ofField (p : BitVec 2) : Rp :=
  match p.toNat with
  | 0 => .bc
  | 1 => .de
  | 2 => .hl
  | _ => .sp

/-- The 2-bit operation field `oo` (30_encoding.md R64). -/
def AluOp.ofField (oo : BitVec 2) : AluOp :=
  match oo.toNat with
  | 0 => .add
  | 1 => .adc
  | 2 => .sub
  | _ => .sbc

/-! ### The constructors of each pattern of R64, by operand -/

/-- LD r,r' (destination, source): pattern `01dddsss` (R64, 43_loads.md R120). -/
def Instr.ldRR : Reg8 → Reg8 → Instr
  | .b, .b => .ldBB
  | .b, .c => .ldBC
  | .b, .d => .ldBD
  | .b, .e => .ldBE
  | .b, .h => .ldBH
  | .b, .l => .ldBL
  | .b, .a => .ldBA
  | .c, .b => .ldCB
  | .c, .c => .ldCC
  | .c, .d => .ldCD
  | .c, .e => .ldCE
  | .c, .h => .ldCH
  | .c, .l => .ldCL
  | .c, .a => .ldCA
  | .d, .b => .ldDB
  | .d, .c => .ldDC
  | .d, .d => .ldDD
  | .d, .e => .ldDE
  | .d, .h => .ldDH
  | .d, .l => .ldDL
  | .d, .a => .ldDA
  | .e, .b => .ldEB
  | .e, .c => .ldEC
  | .e, .d => .ldED
  | .e, .e => .ldEE
  | .e, .h => .ldEH
  | .e, .l => .ldEL
  | .e, .a => .ldEA
  | .h, .b => .ldHB
  | .h, .c => .ldHC
  | .h, .d => .ldHD
  | .h, .e => .ldHE
  | .h, .h => .ldHH
  | .h, .l => .ldHL
  | .h, .a => .ldHA
  | .l, .b => .ldLB
  | .l, .c => .ldLC
  | .l, .d => .ldLD
  | .l, .e => .ldLE
  | .l, .h => .ldLH
  | .l, .l => .ldLL
  | .l, .a => .ldLA
  | .a, .b => .ldAB
  | .a, .c => .ldAC
  | .a, .d => .ldAD
  | .a, .e => .ldAE
  | .a, .h => .ldAH
  | .a, .l => .ldAL
  | .a, .a => .ldAA

/-- LD r,(HL): pattern `01ddd110` (R64, R121). -/
def Instr.ldRAtHl : Reg8 → Instr
  | .b => .ldBAtHl
  | .c => .ldCAtHl
  | .d => .ldDAtHl
  | .e => .ldEAtHl
  | .h => .ldHAtHl
  | .l => .ldLAtHl
  | .a => .ldAAtHl

/-- LD (HL),r: pattern `01110sss` (R64, R122). -/
def Instr.ldAtHlR : Reg8 → Instr
  | .b => .ldAtHlB
  | .c => .ldAtHlC
  | .d => .ldAtHlD
  | .e => .ldAtHlE
  | .h => .ldAtHlH
  | .l => .ldAtHlL
  | .a => .ldAtHlA

/-- Pattern `01dddsss`: destination, source.  LD (HL),(HL) does not exist (R64, R68). -/
def Instr.ld8 : Loc8 → Loc8 → Option Instr
  | .reg dst, .reg src => some (.ldRR dst src)
  | .reg dst, .atHl => some (.ldRAtHl dst)
  | .atHl, .reg src => some (.ldAtHlR src)
  | .atHl, .atHl => none

/-- LD r,d8 and LD (HL),d8: pattern `00rrr110` (R64, R123, R124). -/
def Instr.ldD8 : Loc8 → Byte → Instr
  | .reg .b, v => .ldBD8 v
  | .reg .c, v => .ldCD8 v
  | .reg .d, v => .ldDD8 v
  | .reg .e, v => .ldED8 v
  | .reg .h, v => .ldHD8 v
  | .reg .l, v => .ldLD8 v
  | .reg .a, v => .ldAD8 v
  | .atHl, v => .ldAtHlD8 v

/-- LD rr,d16: pattern `00pp0001` (R64, R125, R126). -/
def Instr.ldD16 : Rp → Word → Instr
  | .bc, v => .ldBcD16 v
  | .de, v => .ldDeD16 v
  | .hl, v => .ldHlD16 v
  | .sp, v => .ldSpD16 v

/-- ADD HL,rr: pattern `00pp1001` (R64, 42_incdec_add16_rlca.md R114, R115). -/
def Instr.addHl : Rp → Instr
  | .bc => .addHlBc
  | .de => .addHlDe
  | .hl => .addHlHl
  | .sp => .addHlSp

/-- INC r and INC (HL): pattern `00rrr100` (R64, R110, R111). -/
def Instr.inc8 : Loc8 → Instr
  | .reg .b => .incB
  | .reg .c => .incC
  | .reg .d => .incD
  | .reg .e => .incE
  | .reg .h => .incH
  | .reg .l => .incL
  | .reg .a => .incA
  | .atHl => .incAtHl

/-- DEC r and DEC (HL): pattern `00rrr101` (R64, R112, R113). -/
def Instr.dec8 : Loc8 → Instr
  | .reg .b => .decB
  | .reg .c => .decC
  | .reg .d => .decD
  | .reg .e => .decE
  | .reg .h => .decH
  | .reg .l => .decL
  | .reg .a => .decA
  | .atHl => .decAtHl

/-- ADD A, ADC A, SUB and SBC A: patterns `100oosss` and `110oo110` (R64, 41_alu8_add_sub.md R90 to R101). -/
def Instr.alu : AluOp → Src8 → Instr
  | .add, .loc (.reg .b) => .addAB
  | .add, .loc (.reg .c) => .addAC
  | .add, .loc (.reg .d) => .addAD
  | .add, .loc (.reg .e) => .addAE
  | .add, .loc (.reg .h) => .addAH
  | .add, .loc (.reg .l) => .addAL
  | .add, .loc (.reg .a) => .addAA
  | .add, .loc .atHl => .addAAtHl
  | .add, .imm v => .addAD8 v
  | .adc, .loc (.reg .b) => .adcAB
  | .adc, .loc (.reg .c) => .adcAC
  | .adc, .loc (.reg .d) => .adcAD
  | .adc, .loc (.reg .e) => .adcAE
  | .adc, .loc (.reg .h) => .adcAH
  | .adc, .loc (.reg .l) => .adcAL
  | .adc, .loc (.reg .a) => .adcAA
  | .adc, .loc .atHl => .adcAAtHl
  | .adc, .imm v => .adcAD8 v
  | .sub, .loc (.reg .b) => .subB
  | .sub, .loc (.reg .c) => .subC
  | .sub, .loc (.reg .d) => .subD
  | .sub, .loc (.reg .e) => .subE
  | .sub, .loc (.reg .h) => .subH
  | .sub, .loc (.reg .l) => .subL
  | .sub, .loc (.reg .a) => .subA
  | .sub, .loc .atHl => .subAtHl
  | .sub, .imm v => .subD8 v
  | .sbc, .loc (.reg .b) => .sbcAB
  | .sbc, .loc (.reg .c) => .sbcAC
  | .sbc, .loc (.reg .d) => .sbcAD
  | .sbc, .loc (.reg .e) => .sbcAE
  | .sbc, .loc (.reg .h) => .sbcAH
  | .sbc, .loc (.reg .l) => .sbcAL
  | .sbc, .loc (.reg .a) => .sbcAA
  | .sbc, .loc .atHl => .sbcAAtHl
  | .sbc, .imm v => .sbcAD8 v

/-! ### The decoder -/

/-- Why bytes are no instruction: the first byte is one of the 122 without a defined operation (R68). -/
inductive DecodeError where
  | unimplemented (opcode : Byte)
deriving DecidableEq, Repr

/-- `x = opcode[7:6]` (R64). -/
def opX (b : Byte) : BitVec 2 := b.extractLsb' 6 2

/-- `y = opcode[5:3]` (R64). -/
def opY (b : Byte) : BitVec 3 := b.extractLsb' 3 3

/-- `z = opcode[2:0]` (R64). -/
def opZ (b : Byte) : BitVec 3 := b.extractLsb' 0 3

/-- `p = opcode[5:4]` (R64). -/
def opP (b : Byte) : BitVec 2 := b.extractLsb' 4 2

/-- `oo = opcode[4:3]` of the patterns `100oosss` and `110oo110` (R64). -/
def opOO (b : Byte) : BitVec 2 := b.extractLsb' 3 2

/-- The first opcode table, for a first byte other than `ESC` and the two bytes after it (R64, R65).
`none`: no defined operation (R68). -/
def decodeFirst (b0 b1 b2 : Byte) : Option Instr :=
  match (opX b0).toNat with
  | 0 =>
    match (opZ b0).toNat with
    | 0 => if opY b0 = 0 then some .nop else none
    | 1 => some (if b0.getLsbD 3 then .addHl (.ofField (opP b0)) else .ldD16 (.ofField (opP b0)) (mkWord b2 b1))
    | 4 => some (.inc8 (.ofField (opY b0)))
    | 5 => some (.dec8 (.ofField (opY b0)))
    | 6 => some (.ldD8 (.ofField (opY b0)) b1)
    | 7 => if opY b0 = 0 then some .rlca else none
    | _ => none
  | 1 => Instr.ld8 (.ofField (opY b0)) (.ofField (opZ b0))
  | 2 => if b0.getLsbD 5 then none else some (.alu (.ofField (opOO b0)) (.loc (.ofField (opZ b0))))
  | _ => if (opZ b0).toNat = 6 ∧ b0.getLsbD 5 = false then some (.alu (.ofField (opOO b0)) (.imm b1)) else none

/-- The decoder, total on any three bytes (R73).  The escape test comes first (60_exceptions.md R157); the byte
after `ESC` is an opcode of the second table, where no operation is defined (R66, R67), and is kept in the term
`prefixCb`, whose meaning raises the error (DESIGN CHOICE, log 5). -/
def decode (b0 b1 b2 : Byte) : Except DecodeError Instr :=
  if b0 = Config.esc then .ok (.prefixCb b1)
  else
    match decodeFirst b0 b1 b2 with
    | some i => .ok i
    | none => .error (.unimplemented b0)

/-- How a decoder tells the length from the first byte alone (R70): the number of bytes, `none` for an
unimplemented byte. -/
def opcodeLength (b0 : Byte) : Option Nat :=
  if b0 = Config.esc then some 2
  else if b0 ∈ [0x01#8, 0x11#8, 0x21#8, 0x31#8] then some 3
  else if b0 ∈ [0x06#8, 0x0E#8, 0x16#8, 0x1E#8, 0x26#8, 0x2E#8, 0x36#8, 0x3E#8, 0xC6#8, 0xCE#8, 0xD6#8, 0xDE#8] then some 2
  else if (decodeFirst b0 0x00#8 0x00#8).isSome then some 1
  else none

/-- The instruction that `decode` reads from the bits `w`, bit 0 the least significant bit of the first byte;
the bits from `nbits` up are 0. -/
def decodeTableWord (nbits w : Nat) : Option Instr :=
  (decode (byteOfNat (w % 2 ^ nbits) 0) (byteOfNat (w % 2 ^ nbits) 1) (byteOfNat (w % 2 ^ nbits) 2)).toOption

/-! ### The encoder -/

/-- The bytes of an instruction at ascending addresses (R61, R65): the opcode, then the immediate, the low byte
of a 16-bit one first (R63). -/
def encode : Instr → List Byte
  | .nop => [0x00#8]
  | .ldBcD16 v => [0x01#8, loByte v, hiByte v]
  | .incB => [0x04#8]
  | .decB => [0x05#8]
  | .ldBD8 v => [0x06#8, v]
  | .rlca => [0x07#8]
  | .addHlBc => [0x09#8]
  | .incC => [0x0C#8]
  | .decC => [0x0D#8]
  | .ldCD8 v => [0x0E#8, v]
  | .ldDeD16 v => [0x11#8, loByte v, hiByte v]
  | .incD => [0x14#8]
  | .decD => [0x15#8]
  | .ldDD8 v => [0x16#8, v]
  | .addHlDe => [0x19#8]
  | .incE => [0x1C#8]
  | .decE => [0x1D#8]
  | .ldED8 v => [0x1E#8, v]
  | .ldHlD16 v => [0x21#8, loByte v, hiByte v]
  | .incH => [0x24#8]
  | .decH => [0x25#8]
  | .ldHD8 v => [0x26#8, v]
  | .addHlHl => [0x29#8]
  | .incL => [0x2C#8]
  | .decL => [0x2D#8]
  | .ldLD8 v => [0x2E#8, v]
  | .ldSpD16 v => [0x31#8, loByte v, hiByte v]
  | .incAtHl => [0x34#8]
  | .decAtHl => [0x35#8]
  | .ldAtHlD8 v => [0x36#8, v]
  | .addHlSp => [0x39#8]
  | .incA => [0x3C#8]
  | .decA => [0x3D#8]
  | .ldAD8 v => [0x3E#8, v]
  | .ldBB => [0x40#8]
  | .ldBC => [0x41#8]
  | .ldBD => [0x42#8]
  | .ldBE => [0x43#8]
  | .ldBH => [0x44#8]
  | .ldBL => [0x45#8]
  | .ldBAtHl => [0x46#8]
  | .ldBA => [0x47#8]
  | .ldCB => [0x48#8]
  | .ldCC => [0x49#8]
  | .ldCD => [0x4A#8]
  | .ldCE => [0x4B#8]
  | .ldCH => [0x4C#8]
  | .ldCL => [0x4D#8]
  | .ldCAtHl => [0x4E#8]
  | .ldCA => [0x4F#8]
  | .ldDB => [0x50#8]
  | .ldDC => [0x51#8]
  | .ldDD => [0x52#8]
  | .ldDE => [0x53#8]
  | .ldDH => [0x54#8]
  | .ldDL => [0x55#8]
  | .ldDAtHl => [0x56#8]
  | .ldDA => [0x57#8]
  | .ldEB => [0x58#8]
  | .ldEC => [0x59#8]
  | .ldED => [0x5A#8]
  | .ldEE => [0x5B#8]
  | .ldEH => [0x5C#8]
  | .ldEL => [0x5D#8]
  | .ldEAtHl => [0x5E#8]
  | .ldEA => [0x5F#8]
  | .ldHB => [0x60#8]
  | .ldHC => [0x61#8]
  | .ldHD => [0x62#8]
  | .ldHE => [0x63#8]
  | .ldHH => [0x64#8]
  | .ldHL => [0x65#8]
  | .ldHAtHl => [0x66#8]
  | .ldHA => [0x67#8]
  | .ldLB => [0x68#8]
  | .ldLC => [0x69#8]
  | .ldLD => [0x6A#8]
  | .ldLE => [0x6B#8]
  | .ldLH => [0x6C#8]
  | .ldLL => [0x6D#8]
  | .ldLAtHl => [0x6E#8]
  | .ldLA => [0x6F#8]
  | .ldAtHlB => [0x70#8]
  | .ldAtHlC => [0x71#8]
  | .ldAtHlD => [0x72#8]
  | .ldAtHlE => [0x73#8]
  | .ldAtHlH => [0x74#8]
  | .ldAtHlL => [0x75#8]
  | .ldAtHlA => [0x77#8]
  | .ldAB => [0x78#8]
  | .ldAC => [0x79#8]
  | .ldAD => [0x7A#8]
  | .ldAE => [0x7B#8]
  | .ldAH => [0x7C#8]
  | .ldAL => [0x7D#8]
  | .ldAAtHl => [0x7E#8]
  | .ldAA => [0x7F#8]
  | .addAB => [0x80#8]
  | .addAC => [0x81#8]
  | .addAD => [0x82#8]
  | .addAE => [0x83#8]
  | .addAH => [0x84#8]
  | .addAL => [0x85#8]
  | .addAAtHl => [0x86#8]
  | .addAA => [0x87#8]
  | .adcAB => [0x88#8]
  | .adcAC => [0x89#8]
  | .adcAD => [0x8A#8]
  | .adcAE => [0x8B#8]
  | .adcAH => [0x8C#8]
  | .adcAL => [0x8D#8]
  | .adcAAtHl => [0x8E#8]
  | .adcAA => [0x8F#8]
  | .subB => [0x90#8]
  | .subC => [0x91#8]
  | .subD => [0x92#8]
  | .subE => [0x93#8]
  | .subH => [0x94#8]
  | .subL => [0x95#8]
  | .subAtHl => [0x96#8]
  | .subA => [0x97#8]
  | .sbcAB => [0x98#8]
  | .sbcAC => [0x99#8]
  | .sbcAD => [0x9A#8]
  | .sbcAE => [0x9B#8]
  | .sbcAH => [0x9C#8]
  | .sbcAL => [0x9D#8]
  | .sbcAAtHl => [0x9E#8]
  | .sbcAA => [0x9F#8]
  | .addAD8 v => [0xC6#8, v]
  | .prefixCb v => [0xCB#8, v]
  | .adcAD8 v => [0xCE#8, v]
  | .subD8 v => [0xD6#8, v]
  | .sbcAD8 v => [0xDE#8, v]

end Sys2Proof
end

