-- ==== Sys2Proof/Machine/State.lean ====
section
/-!
DEFINITION. The whole architectural state (10_state.md R20), the two kinds of stop, and reset (R35).
-/

namespace Sys2Proof.Machine

/-- `Mem`: the bytes that do not hold what an unlisted address holds, by address (10_state.md R36; DESIGN CHOICE, log 7).
The canonical form is `Memory.wf`. -/
abbrev Memory := List Host.Cell

/-- The complete architectural state (R20): "There is nothing else". -/
structure State where
  /-- Accumulator (R21). -/
  a : Byte
  /-- Flags: Z, N, Hf, Cy at bits 7, 6, 5, 4 (R27); the low nibble is 0 in every reachable state (R28). -/
  f : Byte
  b : Byte
  c : Byte
  d : Byte
  e : Byte
  h : Byte
  l : Byte
  /-- Stack pointer, stored as 16 bits (R24). -/
  sp : Word
  /-- Program counter: the address of the next instruction's first byte (R31). -/
  pc : Word
  mem : Memory
deriving DecidableEq, Repr

/-- The one exception of the block (60_exceptions.md R150, R151, R155).  It is returned to the host and the state
stays as it was (R152), so the fault carries the error's fields and no state. -/
inductive Fault where
  /-- Raised by `step` on a first byte without a defined operation (`prefixed = false`, R136) and by the meaning
  of the escape byte (`prefixed = true`, R135).  Safe: the spec defines exactly this stop. -/
  | unimplementedOpcode (opcode : Byte) (prefixed : Bool) (pc : Word)
deriving DecidableEq, Repr

/-- The model refuses nothing: every row of the opcode table has its meaning. -/
inductive Refusal where
  /-- An instruction without a meaning yet.  Raised by no arm of `exec`.  Safe. -/
  | notModelled (mnemonic : String)
deriving DecidableEq, Repr

/-- What a meaning and a step answer. -/
abbrev StepOutcome := Host.Outcome State Fault Refusal

/-- Reset is construction: the post-boot register values and a zeroed memory (R35, 70_reset_and_hazards.md R170,
R171). -/
def State.reset : State where
  a := 0x01#8
  f := 0xF0#8
  b := 0x00#8
  c := 0x13#8
  d := 0x00#8
  e := 0xD8#8
  h := 0x01#8
  l := 0x4D#8
  sp := 0xFFFE#16
  pc := 0x0100#16
  mem := []

end Sys2Proof.Machine
end

