-- ==== Sys2Proof/Machine/Ops.lean ====
section
/-!
DEFINITION. The named operations over memory, registers and the program counter, the fetch, and raising the one
exception.
-/

namespace Sys2Proof.Machine

/-! ### Memory -/

/-- What an unlisted address reads as: the reset content of memory (10_state.md R35). -/
def Memory.unlisted : Byte := Config.resetMem

/-- The canonical form from address `lo` up: addresses strictly rising, inside the address space, and no entry
equal to what an unlisted address reads as. -/
def Memory.wfFrom : Nat → Memory → Bool
  | _, [] => true
  | lo, (k, v) :: m => decide (lo ≤ k) && decide (k < Config.memSize) && v != Memory.unlisted && Memory.wfFrom (k + 1) m

/-- The canonical form of memory. -/
def Memory.wf (m : Memory) : Bool := Memory.wfFrom 0 m

/-- The byte stored at an address (20_memory.md R42). -/
def Memory.read : Memory → Nat → Byte
  | [], _ => Memory.unlisted
  | (k, v) :: m, a => if a = k then v else Memory.read m a

/-- A memory with an entry for `a` put at its place in the rising order. -/
def Memory.insert : Memory → Nat → Byte → Memory
  | [], a, v => [(a, v)]
  | (k, w) :: m, a, v => if a < k then (a, v) :: (k, w) :: m else (k, w) :: Memory.insert m a v

/-- A memory without the entry for `a`. -/
def Memory.erase (m : Memory) (a : Nat) : Memory := m.filter (fun cell => cell.1 != a)

/-- Store a byte at an address, overwriting what was there (20_memory.md R43).  Storing what an unlisted address
reads as leaves no entry, so the canonical form is kept. -/
def Memory.write (m : Memory) (a : Nat) (v : Byte) : Memory :=
  if v = Memory.unlisted then Memory.erase m a else Memory.insert (Memory.erase m a) a v

/-- `MemRead(addr, 1)` (20_memory.md R42): no side effect, no fault (R41). -/
def State.memRead (s : State) (addr : Word) : Byte := Memory.read s.mem addr.toNat

/-- `MemWrite(addr, 1, v)` (20_memory.md R43): changes `Mem[addr]` and nothing else, never fails. -/
def State.memWrite (s : State) (addr : Word) (v : Byte) : State :=
  { s with mem := Memory.write s.mem addr.toNat v }

/-! ### Registers -/

/-- Read an 8-bit register (00_scope.md R8, 10_state.md R21). -/
def State.readReg8 (s : State) : Reg8 → Byte
  | .b => s.b
  | .c => s.c
  | .d => s.d
  | .e => s.e
  | .h => s.h
  | .l => s.l
  | .a => s.a

/-- Write an 8-bit register: no other register changes (10_state.md R21). -/
def State.writeReg8 (s : State) : Reg8 → Byte → State
  | .b, v => { s with b := v }
  | .c, v => { s with c := v }
  | .d, v => { s with d := v }
  | .e, v => { s with e := v }
  | .h, v => { s with h := v }
  | .l, v => { s with l := v }
  | .a, v => { s with a := v }

/-- The pair view HL, high register first (10_state.md R22). -/
def State.hl (s : State) : Word := mkWord s.h s.l

/-- The pair view AF: the low nibble of F reads as 0 (10_state.md R22). -/
def State.af (s : State) : Word := mkWord s.a (s.f &&& 0xF0#8)

/-- Write F as a byte: a host access; no instruction does it (10_state.md R28; DEDUCED, log 9). -/
def State.writeF (s : State) (v : Byte) : State := { s with f := v }

/-- Write AF: the low nibble of the supplied flags byte is masked to zero (10_state.md R23). -/
def State.writeAf (s : State) (v : Word) : State :=
  (s.writeReg8 .a (hiByte v)).writeF (loByte v &&& 0xF0#8)

/-- Write SP (10_state.md R24). -/
def State.writeSp (s : State) (v : Word) : State := { s with sp := v }

/-- Read the 16-bit register a pair field selects (10_state.md R22, R26). -/
def State.readRp (s : State) : Rp → Word
  | .bc => mkWord s.b s.c
  | .de => mkWord s.d s.e
  | .hl => s.hl
  | .sp => s.sp

/-- Write the 16-bit register a pair field selects: high register from the high byte (10_state.md R23, R26). -/
def State.writeRp (s : State) : Rp → Word → State
  | .bc, v => (s.writeReg8 .b (hiByte v)).writeReg8 .c (loByte v)
  | .de, v => (s.writeReg8 .d (hiByte v)).writeReg8 .e (loByte v)
  | .hl, v => (s.writeReg8 .h (hiByte v)).writeReg8 .l (loByte v)
  | .sp, v => s.writeSp v

/-! ### The program counter -/

/-- Write PC: a host access (70_reset_and_hazards.md R175). -/
def State.writePc (s : State) (v : Word) : State := { s with pc := v }

/-- `increment_pc(delta)`: modulo 65536 (10_state.md R32). -/
def State.incrementPc (s : State) (delta : Word) : State := s.writePc (s.pc + delta)

/-- The end of an instruction of length `n`: PC advances by `n` and the step answers Ok
(44_engine_nop_prefix.md R130, R132). -/
def State.complete (s : State) (n : Word) : StepOutcome := .next (s.incrementPc n)

/-! ### The exception -/

/-- `raise UnimplementedOpcode(opcode, prefixed, pc)`: taking the one exception (60_exceptions.md R150 to R152, R158).
Nothing is saved and nothing changes; the error goes to the host with the PC of the start of the step.  There is
no handler to enter and no return from one (R158, R159). -/
def State.raiseUnimplemented (s : State) (opcode : Byte) (pfx : Bool) : StepOutcome :=
  .fault (.unimplementedOpcode opcode pfx s.pc)

/-! ### The fetch -/

/-- Byte `k` of the instruction at PC, at `(PC + k) mod 65536` (20_memory.md R47, R49). -/
def State.fetchByte (s : State) (k : Word) : Byte := s.memRead (s.pc + k)

/-- Fetch and decode the instruction at PC (44_engine_nop_prefix.md R130).  The decoder is handed three bytes,
whatever the length; a byte it does not use is read without effect (20_memory.md R42; DEDUCED, log 6). -/
def State.fetchInstr (s : State) : Except DecodeError Instr :=
  decode (s.fetchByte 0#16) (s.fetchByte 1#16) (s.fetchByte 2#16)

/-- What the step does with what it fetched: perform the operation, or raise the exception for an unprefixed
byte without one (44_engine_nop_prefix.md R130, R136). -/
def State.dispatch (s : State) (run : Instr → State → StepOutcome) : StepOutcome :=
  match s.fetchInstr with
  | .ok i => run i s
  | .error (.unimplemented opcode) => s.raiseUnimplemented opcode false

/-! ### Placing bytes at PC -/

/-- Store the bytes of a number, least significant first, at the `n` addresses from `addr` up. -/
def State.storeBytes (s : State) (addr : Word) (w : Nat) : Nat → State
  | 0 => s
  | n + 1 => (s.memWrite addr (byteOfNat w 0)).storeBytes (addr + 1#16) (w / 256) n

end Sys2Proof.Machine
end

