-- ==== Sys2Proof/Machine/Flags.lean ====
section
/-!
DEFINITION. The flag bits of F (10_state.md R27 to R29) and the six ALU routines with their flag outcomes
(40_alu_routines.md R80 to R87).  Each routine computes on unbounded integers and narrows at the end (R87).
-/

namespace Sys2Proof.Machine

/-! ### The flag bits -/

/-- The four flags (10_state.md R27). -/
inductive Flag where
  | z | n | hf | cy
deriving DecidableEq, Repr

/-- The mask of a flag in F (10_state.md R27). -/
def Flag.mask : Flag → Byte
  | .z => 0x80#8
  | .n => 0x40#8
  | .hf => 0x20#8
  | .cy => 0x10#8

/-- The getter: mask and test (10_state.md R29). -/
def getFlag (f : Byte) (x : Flag) : Bool := (f &&& x.mask) != 0#8

/-- The setter: mask-or, mask-and-not; no other bit of F is touched (10_state.md R29). -/
def putFlag (f : Byte) (x : Flag) (v : Bool) : Byte :=
  if v then f ||| x.mask else f &&& (0xFF#8 - x.mask)

/-- Read a flag of the machine (10_state.md R29). -/
def State.flag (s : State) (x : Flag) : Bool := getFlag s.f x

/-- Set a flag of the machine (10_state.md R29). -/
def State.setFlag (s : State) (x : Flag) (v : Bool) : State := s.writeF (putFlag s.f x v)

/-- Flag outcomes of a routine; `none` is the spec's `-`: the instruction does not write that flag
(40_alu_routines.md). -/
structure FlagOutcome where
  z : Option Bool
  n : Option Bool
  hf : Option Bool
  cy : Option Bool
deriving DecidableEq, Repr

/-- Call the setter of a flag that is written (10_state.md R29). -/
def putFlag? (f : Byte) (x : Flag) : Option Bool → Byte
  | none => f
  | some v => putFlag f x v

/-- F after the setter calls of the written flags (10_state.md R29; DEDUCED, log 4). -/
def applyFlags (f : Byte) (o : FlagOutcome) : Byte :=
  putFlag? (putFlag? (putFlag? (putFlag? f .z o.z) .n o.n) .hf o.hf) .cy o.cy

/-- `flags <- …` and the single-flag writes of an instruction (00_scope.md R8, 10_state.md R29). -/
def State.writeFlags (s : State) (o : FlagOutcome) : State := s.writeF (applyFlags s.f o)

/-! ### The ALU routines -/

/-- What a routine returns: the result and the flag outcomes (40_alu_routines.md). -/
structure AluOut (α : Type) where
  result : α
  flags : FlagOutcome
deriving DecidableEq, Repr

/-- `x & 0xF` as a number. -/
def lowNibble (x : Byte) : Nat := x.toNat % 16

/-- `x & 0x0FFF` as a number. -/
def low12 (x : Word) : Nat := x.toNat % 4096

/-- 8-bit add with carry-in (40_alu_routines.md R81). -/
def add8 (a v : Byte) (c : Bool) : AluOut Byte :=
  let sum := a.toNat + v.toNat + c.toNat
  let result := BitVec.ofNat 8 sum
  { result := result
    flags :=
      { z := some (result == 0#8)
        n := some false
        hf := some (decide (lowNibble a + lowNibble v + c.toNat > 0xF))
        cy := some (decide (sum > 0xFF)) } }

/-- 8-bit subtract with borrow-in; both comparisons are on widened operands (40_alu_routines.md R82). -/
def sub8 (a v : Byte) (c : Bool) : AluOut Byte :=
  let result := BitVec.ofInt 8 ((a.toNat : Int) - v.toNat - c.toNat)
  { result := result
    flags :=
      { z := some (result == 0#8)
        n := some true
        hf := some (decide (lowNibble a < lowNibble v + c.toNat))
        cy := some (decide (a.toNat < v.toNat + c.toNat)) } }

/-- 16-bit add; Z is not written (40_alu_routines.md R83). -/
def add16 (hl v : Word) : AluOut Word :=
  let sum := hl.toNat + v.toNat
  { result := BitVec.ofNat 16 sum
    flags :=
      { z := none
        n := some false
        hf := some (decide (low12 hl + low12 v > 0x0FFF))
        cy := some (decide (sum > 0xFFFF)) } }

/-- Increment; Cy is not written (40_alu_routines.md R84). -/
def inc8 (x : Byte) : AluOut Byte :=
  let result := BitVec.ofNat 8 (x.toNat + 1)
  { result := result
    flags :=
      { z := some (result == 0#8)
        n := some false
        hf := some (decide (lowNibble x + 1 > 0x0F))
        cy := none } }

/-- Decrement; Cy is not written (40_alu_routines.md R85). -/
def dec8 (x : Byte) : AluOut Byte :=
  let result := BitVec.ofInt 8 ((x.toNat : Int) - 1)
  { result := result
    flags :=
      { z := some (result == 0#8)
        n := some true
        hf := some (decide (lowNibble x = 0))
        cy := none } }

/-- Rotate left circular; the old carry is no input, and Z is that of the result (40_alu_routines.md R86; UNVERIFIED, log 2). -/
def rlc8 (a : Byte) : AluOut Byte :=
  let result := (a <<< 1) ||| (a >>> 7)
  { result := result
    flags :=
      { z := some (result == 0#8)
        n := some false
        hf := some false
        cy := some (a.getLsbD 7) } }

/-- The routine and the carry-in of an 8-bit add or subtract: ADD and SUB take 0, ADC and SBC the carry flag
(41_alu8_add_sub.md R90 to R101; UNVERIFIED, log 1). -/
def aluRoutine : AluOp → Byte → Byte → Bool → AluOut Byte
  | .add, a, v, _ => add8 a v false
  | .adc, a, v, cy => add8 a v cy
  | .sub, a, v, _ => sub8 a v false
  | .sbc, a, v, cy => sub8 a v cy

end Sys2Proof.Machine
end

