-- ==== Sys2Proof/Machine/Add16Rotate.lean ====
section
/-!
DEFINITION. ADD HL,rr and RLCA (42_incdec_add16_rlca.md R114 to R116): 5 opcodes.
-/

namespace Sys2Proof.Machine

/-- ADD HL,rr: both operands are read before HL is written; Z is not written (R114, R115). -/
def addToHl (p : Rp) (s : State) : StepOutcome :=
  let out := add16 s.hl (s.readRp p)
  ((s.writeRp .hl out.result).writeFlags out.flags).complete 1#16

/-- RLCA (R116). -/
def rotateA (s : State) : StepOutcome :=
  let out := rlc8 s.a
  ((s.writeReg8 .a out.result).writeFlags out.flags).complete 1#16

/-- RLCA (R116). -/
def execRlca (s : State) : StepOutcome := rotateA s

/-- ADD HL,BC (R114). -/
def execAddHlBc (s : State) : StepOutcome := addToHl .bc s

/-- ADD HL,DE (R114). -/
def execAddHlDe (s : State) : StepOutcome := addToHl .de s

/-- ADD HL,HL (R114). -/
def execAddHlHl (s : State) : StepOutcome := addToHl .hl s

/-- ADD HL,SP (R115). -/
def execAddHlSp (s : State) : StepOutcome := addToHl .sp s

end Sys2Proof.Machine
end

