-- ==== Sys2Proof/Machine/Operands.lean ====
section
/-!
DEFINITION. The operand forms (30_encoding.md R69): 8-bit register, `(HL)`, d8; the d16 and pair forms are
`State.readRp` and `State.writeRp` of Ops.lean.
-/

namespace Sys2Proof.Machine

/-- Read a register or the memory byte at HL (10_state.md R25). -/
def State.readLoc8 (s : State) : Loc8 → Byte
  | .reg r => s.readReg8 r
  | .atHl => s.memRead s.hl

/-- Write a register, or the memory byte at HL; HL itself is not changed by the store (10_state.md R25). -/
def State.writeLoc8 (s : State) : Loc8 → Byte → State
  | .reg r, v => s.writeReg8 r v
  | .atHl, v => s.memWrite s.hl v

/-- The value of an 8-bit source operand (30_encoding.md R69). -/
def State.readSrc8 (s : State) : Src8 → Byte
  | .loc l => s.readLoc8 l
  | .imm d8 => d8

/-- The length of an instruction with this source: an immediate byte adds one (30_encoding.md R60). -/
def srcLength : Src8 → Word
  | .loc _ => 1#16
  | .imm _ => 2#16

end Sys2Proof.Machine
end

