-- ==== Sys2Proof/Machine/AluAddSub.lean ====
section
/-!
DEFINITION. The 8-bit add and subtract instructions (41_alu8_add_sub.md R90 to R101): 36 opcodes.
-/

namespace Sys2Proof.Machine

/-- The operand and the old carry are read, the result goes to A, all four flags are written, PC advances by the
length (R90 to R101). -/
def alu8 (op : AluOp) (src : Src8) (s : State) : StepOutcome :=
  let out := aluRoutine op s.a (s.readSrc8 src) (s.flag .cy)
  ((s.writeReg8 .a out.result).writeFlags out.flags).complete (srcLength src)

/-- ADD A,B (R90). -/
def execAddAB (s : State) : StepOutcome := alu8 .add (.loc (.reg .b)) s

/-- ADD A,C (R90). -/
def execAddAC (s : State) : StepOutcome := alu8 .add (.loc (.reg .c)) s

/-- ADD A,D (R90). -/
def execAddAD (s : State) : StepOutcome := alu8 .add (.loc (.reg .d)) s

/-- ADD A,E (R90). -/
def execAddAE (s : State) : StepOutcome := alu8 .add (.loc (.reg .e)) s

/-- ADD A,H (R90). -/
def execAddAH (s : State) : StepOutcome := alu8 .add (.loc (.reg .h)) s

/-- ADD A,L (R90). -/
def execAddAL (s : State) : StepOutcome := alu8 .add (.loc (.reg .l)) s

/-- ADD A,(HL) (R91). -/
def execAddAAtHl (s : State) : StepOutcome := alu8 .add (.loc .atHl) s

/-- ADD A,A (R90). -/
def execAddAA (s : State) : StepOutcome := alu8 .add (.loc (.reg .a)) s

/-- ADC A,B (R93). -/
def execAdcAB (s : State) : StepOutcome := alu8 .adc (.loc (.reg .b)) s

/-- ADC A,C (R93). -/
def execAdcAC (s : State) : StepOutcome := alu8 .adc (.loc (.reg .c)) s

/-- ADC A,D (R93). -/
def execAdcAD (s : State) : StepOutcome := alu8 .adc (.loc (.reg .d)) s

/-- ADC A,E (R93). -/
def execAdcAE (s : State) : StepOutcome := alu8 .adc (.loc (.reg .e)) s

/-- ADC A,H (R93). -/
def execAdcAH (s : State) : StepOutcome := alu8 .adc (.loc (.reg .h)) s

/-- ADC A,L (R93). -/
def execAdcAL (s : State) : StepOutcome := alu8 .adc (.loc (.reg .l)) s

/-- ADC A,(HL) (R94). -/
def execAdcAAtHl (s : State) : StepOutcome := alu8 .adc (.loc .atHl) s

/-- ADC A,A (R93). -/
def execAdcAA (s : State) : StepOutcome := alu8 .adc (.loc (.reg .a)) s

/-- SUB B (R96). -/
def execSubB (s : State) : StepOutcome := alu8 .sub (.loc (.reg .b)) s

/-- SUB C (R96). -/
def execSubC (s : State) : StepOutcome := alu8 .sub (.loc (.reg .c)) s

/-- SUB D (R96). -/
def execSubD (s : State) : StepOutcome := alu8 .sub (.loc (.reg .d)) s

/-- SUB E (R96). -/
def execSubE (s : State) : StepOutcome := alu8 .sub (.loc (.reg .e)) s

/-- SUB H (R96). -/
def execSubH (s : State) : StepOutcome := alu8 .sub (.loc (.reg .h)) s

/-- SUB L (R96). -/
def execSubL (s : State) : StepOutcome := alu8 .sub (.loc (.reg .l)) s

/-- SUB (HL) (R97). -/
def execSubAtHl (s : State) : StepOutcome := alu8 .sub (.loc .atHl) s

/-- SUB A (R96). -/
def execSubA (s : State) : StepOutcome := alu8 .sub (.loc (.reg .a)) s

/-- SBC A,B (R99). -/
def execSbcAB (s : State) : StepOutcome := alu8 .sbc (.loc (.reg .b)) s

/-- SBC A,C (R99). -/
def execSbcAC (s : State) : StepOutcome := alu8 .sbc (.loc (.reg .c)) s

/-- SBC A,D (R99). -/
def execSbcAD (s : State) : StepOutcome := alu8 .sbc (.loc (.reg .d)) s

/-- SBC A,E (R99). -/
def execSbcAE (s : State) : StepOutcome := alu8 .sbc (.loc (.reg .e)) s

/-- SBC A,H (R99). -/
def execSbcAH (s : State) : StepOutcome := alu8 .sbc (.loc (.reg .h)) s

/-- SBC A,L (R99). -/
def execSbcAL (s : State) : StepOutcome := alu8 .sbc (.loc (.reg .l)) s

/-- SBC A,(HL) (R100). -/
def execSbcAAtHl (s : State) : StepOutcome := alu8 .sbc (.loc .atHl) s

/-- SBC A,A (R99). -/
def execSbcAA (s : State) : StepOutcome := alu8 .sbc (.loc (.reg .a)) s

/-- ADD A,d8 (R92). -/
def execAddAD8 (d8 : Byte) (s : State) : StepOutcome := alu8 .add (.imm d8) s

/-- ADC A,d8 (R95). -/
def execAdcAD8 (d8 : Byte) (s : State) : StepOutcome := alu8 .adc (.imm d8) s

/-- SUB d8 (R98). -/
def execSubD8 (d8 : Byte) (s : State) : StepOutcome := alu8 .sub (.imm d8) s

/-- SBC A,d8 (R101). -/
def execSbcAD8 (d8 : Byte) (s : State) : StepOutcome := alu8 .sbc (.imm d8) s

end Sys2Proof.Machine
end

