-- ==== Sys2Proof/Machine/Engine.lean ====
section
/-!
DEFINITION. NOP and the escape byte (44_engine_nop_prefix.md R133, R135).
-/

namespace Sys2Proof.Machine

/-- NOP (R133). -/
def execNop (s : State) : StepOutcome := s.complete 1#16

/-- PREFIX CB: the second table defines no operation, so the step raises the exception with the second byte (R135). -/
def execPrefixCb (opcode2 : Byte) (s : State) : StepOutcome := s.raiseUnimplemented opcode2 true

end Sys2Proof.Machine
end

