-- ==== Sys2Proof/Machine/IncDec.lean ====
section
/-!
DEFINITION. INC and DEC of a register or of the memory byte at HL (42_incdec_add16_rlca.md R110 to R113): 16 opcodes.
-/

namespace Sys2Proof.Machine

/-- The operand is read, the flags the routine writes are set, and the result goes back to the operand
(R110 to R113). -/
def update8 (routine : Byte → AluOut Byte) (loc : Loc8) (s : State) : StepOutcome :=
  let out := routine (s.readLoc8 loc)
  ((s.writeFlags out.flags).writeLoc8 loc out.result).complete 1#16

/-- INC B (R110). -/
def execIncB (s : State) : StepOutcome := update8 inc8 (.reg .b) s

/-- DEC B (R112). -/
def execDecB (s : State) : StepOutcome := update8 dec8 (.reg .b) s

/-- INC C (R110). -/
def execIncC (s : State) : StepOutcome := update8 inc8 (.reg .c) s

/-- DEC C (R112). -/
def execDecC (s : State) : StepOutcome := update8 dec8 (.reg .c) s

/-- INC D (R110). -/
def execIncD (s : State) : StepOutcome := update8 inc8 (.reg .d) s

/-- DEC D (R112). -/
def execDecD (s : State) : StepOutcome := update8 dec8 (.reg .d) s

/-- INC E (R110). -/
def execIncE (s : State) : StepOutcome := update8 inc8 (.reg .e) s

/-- DEC E (R112). -/
def execDecE (s : State) : StepOutcome := update8 dec8 (.reg .e) s

/-- INC H (R110). -/
def execIncH (s : State) : StepOutcome := update8 inc8 (.reg .h) s

/-- DEC H (R112). -/
def execDecH (s : State) : StepOutcome := update8 dec8 (.reg .h) s

/-- INC L (R110). -/
def execIncL (s : State) : StepOutcome := update8 inc8 (.reg .l) s

/-- DEC L (R112). -/
def execDecL (s : State) : StepOutcome := update8 dec8 (.reg .l) s

/-- INC (HL) (R111). -/
def execIncAtHl (s : State) : StepOutcome := update8 inc8 .atHl s

/-- DEC (HL) (R113). -/
def execDecAtHl (s : State) : StepOutcome := update8 dec8 .atHl s

/-- INC A (R110). -/
def execIncA (s : State) : StepOutcome := update8 inc8 (.reg .a) s

/-- DEC A (R112). -/
def execDecA (s : State) : StepOutcome := update8 dec8 (.reg .a) s

end Sys2Proof.Machine
end

