-- ==== Sys2Proof/Machine/Loads.lean ====
section
/-!
DEFINITION. The load instructions (43_loads.md R120 to R126): 75 opcodes.  No load touches a flag.
-/

namespace Sys2Proof.Machine

/-- LD dst,src on bytes: the source is read, and its value is written to the destination, the address of a store
being the HL of the start of the step (R120 to R124, 20_memory.md R52). -/
def ld8 (dst : Loc8) (src : Src8) (s : State) : StepOutcome :=
  (s.writeLoc8 dst (s.readSrc8 src)).complete (srcLength src)

/-- LD rr,d16 (R125, R126). -/
def ld16 (p : Rp) (d16 : Word) (s : State) : StepOutcome :=
  (s.writeRp p d16).complete 3#16

/-- LD BC,d16 (R125). -/
def execLdBcD16 (d16 : Word) (s : State) : StepOutcome := ld16 .bc d16 s

/-- LD B,d8 (R123). -/
def execLdBD8 (d8 : Byte) (s : State) : StepOutcome := ld8 (.reg .b) (.imm d8) s

/-- LD C,d8 (R123). -/
def execLdCD8 (d8 : Byte) (s : State) : StepOutcome := ld8 (.reg .c) (.imm d8) s

/-- LD DE,d16 (R125). -/
def execLdDeD16 (d16 : Word) (s : State) : StepOutcome := ld16 .de d16 s

/-- LD D,d8 (R123). -/
def execLdDD8 (d8 : Byte) (s : State) : StepOutcome := ld8 (.reg .d) (.imm d8) s

/-- LD E,d8 (R123). -/
def execLdED8 (d8 : Byte) (s : State) : StepOutcome := ld8 (.reg .e) (.imm d8) s

/-- LD HL,d16 (R125). -/
def execLdHlD16 (d16 : Word) (s : State) : StepOutcome := ld16 .hl d16 s

/-- LD H,d8 (R123). -/
def execLdHD8 (d8 : Byte) (s : State) : StepOutcome := ld8 (.reg .h) (.imm d8) s

/-- LD L,d8 (R123). -/
def execLdLD8 (d8 : Byte) (s : State) : StepOutcome := ld8 (.reg .l) (.imm d8) s

/-- LD SP,d16 (R126). -/
def execLdSpD16 (d16 : Word) (s : State) : StepOutcome := ld16 .sp d16 s

/-- LD (HL),d8 (R124). -/
def execLdAtHlD8 (d8 : Byte) (s : State) : StepOutcome := ld8 .atHl (.imm d8) s

/-- LD A,d8 (R123). -/
def execLdAD8 (d8 : Byte) (s : State) : StepOutcome := ld8 (.reg .a) (.imm d8) s

/-- LD B,B (R120). -/
def execLdBB (s : State) : StepOutcome := ld8 (.reg .b) (.loc (.reg .b)) s

/-- LD B,C (R120). -/
def execLdBC (s : State) : StepOutcome := ld8 (.reg .b) (.loc (.reg .c)) s

/-- LD B,D (R120). -/
def execLdBD (s : State) : StepOutcome := ld8 (.reg .b) (.loc (.reg .d)) s

/-- LD B,E (R120). -/
def execLdBE (s : State) : StepOutcome := ld8 (.reg .b) (.loc (.reg .e)) s

/-- LD B,H (R120). -/
def execLdBH (s : State) : StepOutcome := ld8 (.reg .b) (.loc (.reg .h)) s

/-- LD B,L (R120). -/
def execLdBL (s : State) : StepOutcome := ld8 (.reg .b) (.loc (.reg .l)) s

/-- LD B,(HL) (R121). -/
def execLdBAtHl (s : State) : StepOutcome := ld8 (.reg .b) (.loc .atHl) s

/-- LD B,A (R120). -/
def execLdBA (s : State) : StepOutcome := ld8 (.reg .b) (.loc (.reg .a)) s

/-- LD C,B (R120). -/
def execLdCB (s : State) : StepOutcome := ld8 (.reg .c) (.loc (.reg .b)) s

/-- LD C,C (R120). -/
def execLdCC (s : State) : StepOutcome := ld8 (.reg .c) (.loc (.reg .c)) s

/-- LD C,D (R120). -/
def execLdCD (s : State) : StepOutcome := ld8 (.reg .c) (.loc (.reg .d)) s

/-- LD C,E (R120). -/
def execLdCE (s : State) : StepOutcome := ld8 (.reg .c) (.loc (.reg .e)) s

/-- LD C,H (R120). -/
def execLdCH (s : State) : StepOutcome := ld8 (.reg .c) (.loc (.reg .h)) s

/-- LD C,L (R120). -/
def execLdCL (s : State) : StepOutcome := ld8 (.reg .c) (.loc (.reg .l)) s

/-- LD C,(HL) (R121). -/
def execLdCAtHl (s : State) : StepOutcome := ld8 (.reg .c) (.loc .atHl) s

/-- LD C,A (R120). -/
def execLdCA (s : State) : StepOutcome := ld8 (.reg .c) (.loc (.reg .a)) s

/-- LD D,B (R120). -/
def execLdDB (s : State) : StepOutcome := ld8 (.reg .d) (.loc (.reg .b)) s

/-- LD D,C (R120). -/
def execLdDC (s : State) : StepOutcome := ld8 (.reg .d) (.loc (.reg .c)) s

/-- LD D,D (R120). -/
def execLdDD (s : State) : StepOutcome := ld8 (.reg .d) (.loc (.reg .d)) s

/-- LD D,E (R120). -/
def execLdDE (s : State) : StepOutcome := ld8 (.reg .d) (.loc (.reg .e)) s

/-- LD D,H (R120). -/
def execLdDH (s : State) : StepOutcome := ld8 (.reg .d) (.loc (.reg .h)) s

/-- LD D,L (R120). -/
def execLdDL (s : State) : StepOutcome := ld8 (.reg .d) (.loc (.reg .l)) s

/-- LD D,(HL) (R121). -/
def execLdDAtHl (s : State) : StepOutcome := ld8 (.reg .d) (.loc .atHl) s

/-- LD D,A (R120). -/
def execLdDA (s : State) : StepOutcome := ld8 (.reg .d) (.loc (.reg .a)) s

/-- LD E,B (R120). -/
def execLdEB (s : State) : StepOutcome := ld8 (.reg .e) (.loc (.reg .b)) s

/-- LD E,C (R120). -/
def execLdEC (s : State) : StepOutcome := ld8 (.reg .e) (.loc (.reg .c)) s

/-- LD E,D (R120). -/
def execLdED (s : State) : StepOutcome := ld8 (.reg .e) (.loc (.reg .d)) s

/-- LD E,E (R120). -/
def execLdEE (s : State) : StepOutcome := ld8 (.reg .e) (.loc (.reg .e)) s

/-- LD E,H (R120). -/
def execLdEH (s : State) : StepOutcome := ld8 (.reg .e) (.loc (.reg .h)) s

/-- LD E,L (R120). -/
def execLdEL (s : State) : StepOutcome := ld8 (.reg .e) (.loc (.reg .l)) s

/-- LD E,(HL) (R121). -/
def execLdEAtHl (s : State) : StepOutcome := ld8 (.reg .e) (.loc .atHl) s

/-- LD E,A (R120). -/
def execLdEA (s : State) : StepOutcome := ld8 (.reg .e) (.loc (.reg .a)) s

/-- LD H,B (R120). -/
def execLdHB (s : State) : StepOutcome := ld8 (.reg .h) (.loc (.reg .b)) s

/-- LD H,C (R120). -/
def execLdHC (s : State) : StepOutcome := ld8 (.reg .h) (.loc (.reg .c)) s

/-- LD H,D (R120). -/
def execLdHD (s : State) : StepOutcome := ld8 (.reg .h) (.loc (.reg .d)) s

/-- LD H,E (R120). -/
def execLdHE (s : State) : StepOutcome := ld8 (.reg .h) (.loc (.reg .e)) s

/-- LD H,H (R120). -/
def execLdHH (s : State) : StepOutcome := ld8 (.reg .h) (.loc (.reg .h)) s

/-- LD H,L (R120). -/
def execLdHL (s : State) : StepOutcome := ld8 (.reg .h) (.loc (.reg .l)) s

/-- LD H,(HL) (R121). -/
def execLdHAtHl (s : State) : StepOutcome := ld8 (.reg .h) (.loc .atHl) s

/-- LD H,A (R120). -/
def execLdHA (s : State) : StepOutcome := ld8 (.reg .h) (.loc (.reg .a)) s

/-- LD L,B (R120). -/
def execLdLB (s : State) : StepOutcome := ld8 (.reg .l) (.loc (.reg .b)) s

/-- LD L,C (R120). -/
def execLdLC (s : State) : StepOutcome := ld8 (.reg .l) (.loc (.reg .c)) s

/-- LD L,D (R120). -/
def execLdLD (s : State) : StepOutcome := ld8 (.reg .l) (.loc (.reg .d)) s

/-- LD L,E (R120). -/
def execLdLE (s : State) : StepOutcome := ld8 (.reg .l) (.loc (.reg .e)) s

/-- LD L,H (R120). -/
def execLdLH (s : State) : StepOutcome := ld8 (.reg .l) (.loc (.reg .h)) s

/-- LD L,L (R120). -/
def execLdLL (s : State) : StepOutcome := ld8 (.reg .l) (.loc (.reg .l)) s

/-- LD L,(HL) (R121). -/
def execLdLAtHl (s : State) : StepOutcome := ld8 (.reg .l) (.loc .atHl) s

/-- LD L,A (R120). -/
def execLdLA (s : State) : StepOutcome := ld8 (.reg .l) (.loc (.reg .a)) s

/-- LD (HL),B (R122). -/
def execLdAtHlB (s : State) : StepOutcome := ld8 .atHl (.loc (.reg .b)) s

/-- LD (HL),C (R122). -/
def execLdAtHlC (s : State) : StepOutcome := ld8 .atHl (.loc (.reg .c)) s

/-- LD (HL),D (R122). -/
def execLdAtHlD (s : State) : StepOutcome := ld8 .atHl (.loc (.reg .d)) s

/-- LD (HL),E (R122). -/
def execLdAtHlE (s : State) : StepOutcome := ld8 .atHl (.loc (.reg .e)) s

/-- LD (HL),H (R122). -/
def execLdAtHlH (s : State) : StepOutcome := ld8 .atHl (.loc (.reg .h)) s

/-- LD (HL),L (R122). -/
def execLdAtHlL (s : State) : StepOutcome := ld8 .atHl (.loc (.reg .l)) s

/-- LD (HL),A (R122). -/
def execLdAtHlA (s : State) : StepOutcome := ld8 .atHl (.loc (.reg .a)) s

/-- LD A,B (R120). -/
def execLdAB (s : State) : StepOutcome := ld8 (.reg .a) (.loc (.reg .b)) s

/-- LD A,C (R120). -/
def execLdAC (s : State) : StepOutcome := ld8 (.reg .a) (.loc (.reg .c)) s

/-- LD A,D (R120). -/
def execLdAD (s : State) : StepOutcome := ld8 (.reg .a) (.loc (.reg .d)) s

/-- LD A,E (R120). -/
def execLdAE (s : State) : StepOutcome := ld8 (.reg .a) (.loc (.reg .e)) s

/-- LD A,H (R120). -/
def execLdAH (s : State) : StepOutcome := ld8 (.reg .a) (.loc (.reg .h)) s

/-- LD A,L (R120). -/
def execLdAL (s : State) : StepOutcome := ld8 (.reg .a) (.loc (.reg .l)) s

/-- LD A,(HL) (R121). -/
def execLdAAtHl (s : State) : StepOutcome := ld8 (.reg .a) (.loc .atHl) s

/-- LD A,A (R120). -/
def execLdAA (s : State) : StepOutcome := ld8 (.reg .a) (.loc (.reg .a)) s

end Sys2Proof.Machine
end

