-- ==== Sys2Proof/Machine/Step.lean ====
section
/-!
DEFINITION. One step of the machine (44_engine_nop_prefix.md R130), and placing an instruction where it fetches.
-/

namespace Sys2Proof.Machine

/-- Exactly one fetch-decode-execute cycle (R130): a function of the state (R138) that completes all of its
effects or none (R134). -/
def step (s : State) : Host.Outcome State Fault Refusal := s.dispatch exec

/-- `s` with the instruction whose bits are `w` stored at PC, the next fetch; the bits from `nbits` up to the
longest instruction, three bytes, are 0 (DEDUCED, log 8). -/
def State.withFetchWord (s : State) (nbits w : Nat) : State := s.storeBytes s.pc (w % 2 ^ nbits) 3

end Sys2Proof.Machine
end

