-- ==== Sys2Proof/Machine/HostPort.lean ====
section
/-!
DEFINITION. What the host may do to the state between two steps (70_reset_and_hazards.md R173, R175, R176).
It is no part of `step` (DEDUCED, log 9).
-/

namespace Sys2Proof.Machine

/-- Load an image: a sequence of `MemWrite`, in order (R173). -/
def State.loadImage (s : State) : List (Word × Byte) → State
  | [] => s
  | (addr, v) :: rest => (s.memWrite addr v).loadImage rest

/-- The writes of the host: any register, pair or flag, and any memory byte (R175). -/
inductive HostAction where
  | writeReg8 (r : Reg8) (v : Byte)
  | writeF (v : Byte)
  | writeRp (p : Rp) (v : Word)
  | writeAf (v : Word)
  | writePc (v : Word)
  | incrementPc (delta : Word)
  | setFlag (x : Flag) (v : Bool)
  | memWrite (addr : Word) (v : Byte)
deriving DecidableEq, Repr

/-- A host's write, through the accessors of 10_state.md R21 to R32. -/
def State.applyHostAction (s : State) : HostAction → State
  | .writeReg8 r v => s.writeReg8 r v
  | .writeF v => s.writeF v
  | .writeRp p v => s.writeRp p v
  | .writeAf v => s.writeAf v
  | .writePc v => s.writePc v
  | .incrementPc delta => s.incrementPc delta
  | .setFlag x v => s.setFlag x v
  | .memWrite addr v => s.memWrite addr v

/-- The host's duty: a direct write of F supplies a zero low nibble (R175, 10_state.md R28). -/
def HostAction.dutiful : HostAction → Bool
  | .writeF v => v &&& 0x0F#8 == 0#8
  | _ => true

end Sys2Proof.Machine
end

