-- ==== Sys2Proof/Machine/Run.lean ====
section
/-!
DEFINITION. A run: a sequence of steps the host invokes, which ends at the first error
(44_engine_nop_prefix.md R141).
-/

namespace Sys2Proof.Machine

/-- Why a run of at most `k` steps ended. -/
inductive RunStop where
  /-- The host stopped invoking `step`. -/
  | hostStopped
  /-- A step returned the error; its fields are part of the outcome (R141). -/
  | error (r : Fault)
  /-- A step was refused: no step of this model is. -/
  | refused (r : Refusal)
deriving DecidableEq, Repr

/-- The outcome of a run: the state at the end, how many steps succeeded, and why it ended. -/
structure RunEnd where
  final : State
  steps : Nat
  stop : RunStop
deriving DecidableEq, Repr

/-- At most `k` steps from `s`.  The final state of a run that ends by an error is the state before the failing
step (R141). -/
def runFor : Nat → State → RunEnd
  | 0, s => { final := s, steps := 0, stop := .hostStopped }
  | k + 1, s =>
    match step s with
    | .next t => { runFor k t with steps := (runFor k t).steps + 1 }
    | .fault r => { final := s, steps := 0, stop := .error r }
    | .refused r => { final := s, steps := 0, stop := .refused r }

end Sys2Proof.Machine
end

