-- ==== Sys2Proof/Safety.lean ====
section
/-!
DEFINITION. What counts as a good state and as a safe run.
-/

namespace Sys2Proof.Machine

/-- The state invariant: the low nibble of F is 0 (10_state.md R28), and memory is in canonical form. -/
abbrev State.Inv (s : State) : Prop := s.f &&& 0x0F#8 = 0#8 ∧ Memory.wf s.mem = true

/-- A run of `k` steps is safe when none of them raises UnimplementedOpcode or is refused. -/
def SafeFor (k : Nat) (s : State) : Prop := (runFor k s).stop = .hostStopped

end Sys2Proof.Machine
end

