-- ==== Sys2Proof/Certificates/Slice0/Obligations.lean ====
section
/-!
DEFINITION. The statements for the provers, from the numbered rules of spec/.

Reading them: `Does s i bytes post` says that `exec i s` answers a next state, that `step s` answers the same one
where `bytes` stand at PC (the encoding and the operand fetch of the rule), and that the next state satisfies `post`.
The results are written as numbers, from the formulas of the rules and not through the model's ALU routines.
-/

open Sys2Proof Sys2Proof.Machine

namespace Sys2Proof.Rules

/-! ### The spec's words, for the statements -/

/-- A byte by its number. -/
def byte (n : Nat) : Byte := BitVec.ofNat 8 n

/-- The number of a register in a 3-bit field (10_state.md R25). -/
def regField : Reg8 → Nat
  | .b => 0
  | .c => 1
  | .d => 2
  | .e => 3
  | .h => 4
  | .l => 5
  | .a => 7

/-- The number of a pair in a 2-bit field (10_state.md R26). -/
def pairField : Rp → Nat
  | .bc => 0
  | .de => 1
  | .hl => 2
  | .sp => 3

/-- These bytes stand at ascending addresses from `addr`, modulo 65536 (20_memory.md R47, R49). -/
def bytesAt (s : State) : Word → List Byte → Bool
  | _, [] => true
  | addr, v :: rest => s.memRead addr == v && bytesAt s (addr + 1#16) rest

/-- The first byte of the instruction at PC. -/
def opcodeAt (s : State) : Byte := s.memRead s.pc

/-- The instruction completes: alone, and as a step where its bytes stand at PC; the next state satisfies `post`. -/
def Does (s : State) (i : Instr) (bytes : List Byte) (post : State → Prop) : Prop :=
  ∃ t, exec i s = .next t ∧ (bytesAt s s.pc bytes = true → step s = .next t) ∧ post t

/-- Z, N, Hf, Cy are bits 7, 6, 5, 4 of F (10_state.md R27). -/
def flagsAre (t : State) (z n h c : Bool) : Prop :=
  t.f.getLsbD 7 = z ∧ t.f.getLsbD 6 = n ∧ t.f.getLsbD 5 = h ∧ t.f.getLsbD 4 = c

/-- Bits 3 to 0 of F are as before (10_state.md R29, R37). -/
def lowNibbleKept (s t : State) : Prop := t.f &&& 0x0F#8 = s.f &&& 0x0F#8

/-- Every byte of memory reads as before. -/
def memoryKept (s t : State) : Prop := ∀ x : Word, t.memRead x = s.memRead x

/-- Every byte of memory but the one at `addr` reads as before. -/
def memoryKeptBut (s t : State) (addr : Word) : Prop := ∀ x : Word, x ≠ addr → t.memRead x = s.memRead x

/-- The destination register is `r` and it now holds `v`; no other general register changed. -/
def registerSet (s t : State) (r : Reg8) (v : Byte) : Prop :=
  t.readReg8 r = v ∧ ∀ x, x ≠ r → t.readReg8 x = s.readReg8 x

/-- No general register changed. -/
def registersKept (s t : State) : Prop := ∀ x, t.readReg8 x = s.readReg8 x

/-- What ADD, ADC, SUB and SBC leave: A, the four flags, PC; everything else as before. -/
def accumulatorPost (s t : State) (len : Word) (result : Nat) (n h c : Bool) : Prop :=
  registerSet s t .a (byte result) ∧ flagsAre t (decide (result = 0)) n h c ∧ lowNibbleKept s t ∧
    t.sp = s.sp ∧ t.pc = s.pc + len ∧ memoryKept s t

/-- What an 8-bit load into a register leaves. -/
def loadPost (s t : State) (len : Word) (r : Reg8) (v : Byte) : Prop :=
  registerSet s t r v ∧ t.f = s.f ∧ t.sp = s.sp ∧ t.pc = s.pc + len ∧ memoryKept s t

/-- What a store to the memory byte at HL leaves; the address is the HL of the start of the step. -/
def storePost (s t : State) (len : Word) (v : Byte) : Prop :=
  t.memRead s.hl = v ∧ memoryKeptBut s t s.hl ∧ registersKept s t ∧ t.f = s.f ∧ t.sp = s.sp ∧ t.pc = s.pc + len

/-- The 122 unimplemented first bytes, as 30_encoding.md R68 lists them. -/
def unimplementedBytes : List Nat :=
  [0x02, 0x03, 0x08, 0x0A, 0x0B, 0x0F, 0x10, 0x12, 0x13, 0x17, 0x18, 0x1A, 0x1B, 0x1F] ++
  [0x20, 0x22, 0x23, 0x27, 0x28, 0x2A, 0x2B, 0x2F, 0x30, 0x32, 0x33, 0x37, 0x38, 0x3A, 0x3B, 0x3F, 0x76] ++
  (List.range 32).map (0xA0 + ·) ++
  [0xC0, 0xC1, 0xC2, 0xC3, 0xC4, 0xC5, 0xC7, 0xC8, 0xC9, 0xCA, 0xCC, 0xCD, 0xCF] ++
  [0xD0, 0xD1, 0xD2, 0xD3, 0xD4, 0xD5, 0xD7, 0xD8, 0xD9, 0xDA, 0xDB, 0xDC, 0xDD, 0xDF] ++
  (List.range 32).map (0xE0 + ·)

/-- The first byte is one of the 122. -/
def isUnimplemented (b : Byte) : Bool := unimplementedBytes.contains b.toNat

/-- The length an implemented first byte tells (30_encoding.md R70). -/
def lengthOf (b : Byte) : Nat :=
  if [0x01, 0x11, 0x21, 0x31].contains b.toNat then 3
  else if [0x06, 0x0E, 0x16, 0x1E, 0x26, 0x2E, 0x36, 0x3E, 0xC6, 0xCE, 0xD6, 0xDE].contains b.toNat then 2
  else 1

/-- The opcodes that store a byte of memory: INC (HL), DEC (HL), LD (HL),d8, LD (HL),r. -/
def storeBytesOfTable : List Nat := [0x34, 0x35, 0x36, 0x70, 0x71, 0x72, 0x73, 0x74, 0x75, 0x77]

/-- The opcodes of NOP and of every load (30_encoding.md R65): the rows of 10_state.md R30 that write no flag. -/
def writesNoFlag (b : Byte) : Bool :=
  b.toNat == 0x00 || ([0x01, 0x11, 0x21, 0x31] ++ [0x06, 0x0E, 0x16, 0x1E, 0x26, 0x2E, 0x36, 0x3E]).contains b.toNat ||
    (decide (0x40 ≤ b.toNat) && decide (b.toNat ≤ 0x7F))

/-- The opcodes of INC and DEC, which do not write Cy (10_state.md R30). -/
def isIncDec (b : Byte) : Bool := decide (b.toNat < 0x40) && (b.toNat % 8 == 4 || b.toNat % 8 == 5)

/-- The opcodes of ADD HL,rr, which do not write Z (10_state.md R30). -/
def isAddHl (b : Byte) : Bool := [0x09, 0x19, 0x29, 0x39].contains b.toNat

/-- The bits of F that the opcode's row of the table of 10_state.md R30 writes: none for NOP and the loads, Z N Hf
for INC and DEC, N Hf Cy for ADD HL,rr, all four for ADD, ADC, SUB, SBC and RLCA. -/
def flagsWritten (b : Byte) : Byte :=
  if writesNoFlag b then 0x00#8 else if isIncDec b then 0xE0#8 else if isAddHl b then 0x70#8 else 0xF0#8

/-- The sum of the lengths of the instructions that at most `k` steps from `s` complete. -/
def lengthSum : Nat → State → Nat
  | 0, _ => 0
  | k + 1, s =>
    match step s with
    | .next t => lengthOf (opcodeAt s) + lengthSum k t
    | .fault _ => 0
    | .refused _ => 0

/-- One instruction executed `k` times in a row. -/
def execTimes : Nat → Instr → State → StepOutcome
  | 0, _, s => .next s
  | k + 1, i, s =>
    match exec i s with
    | .next t => execTimes k i t
    | .fault r => .fault r
    | .refused r => .refused r

/-- The byte an image defines at an address: the last one it stores there. -/
def imageByte : List (Word × Byte) → Word → Option Byte
  | [], _ => none
  | (addr, v) :: rest, x => (imageByte rest x).or (if x = addr then some v else none)

/-- `F = (z << 7) | (n << 6) | (h << 5) | (c << 4)` (10_state.md R29). -/
def packedFlags (z n h c : Bool) : Byte := byte (z.toNat * 128 + n.toNat * 64 + h.toNat * 32 + c.toNat * 16)

end Sys2Proof.Rules

open Sys2Proof.Rules

/-! ### Reset and the state invariant -/

/-- R35, R171: reset leaves every register at its stated value, every flag 1, and every memory byte 0. -/
def Obligations.ResetLeavesPostBootValues : Prop :=
  State.reset.a = 0x01#8 ∧ State.reset.f = 0xF0#8 ∧ State.reset.b = 0x00#8 ∧ State.reset.c = 0x13#8 ∧
    State.reset.d = 0x00#8 ∧ State.reset.e = 0xD8#8 ∧ State.reset.h = 0x01#8 ∧ State.reset.l = 0x4D#8 ∧
    State.reset.sp = 0xFFFE#16 ∧ State.reset.pc = 0x0100#16 ∧ (∀ x : Word, State.reset.memRead x = 0x00#8) ∧
    flagsAre State.reset true true true true ∧ State.reset.readRp .bc = 0x0013#16 ∧
    State.reset.readRp .de = 0x00D8#16 ∧ State.reset.readRp .hl = 0x014D#16 ∧ State.reset.af = 0x01F0#16

/-- The invariant (R28 for F; the canonical form is the model's, log 7) holds at reset. -/
def Obligations.ResetMeetsInvariant : Prop := State.reset.Inv

/-- R28: the low nibble of F is 0 in every reachable state; and memory keeps its canonical form (log 7).
From every state that meets the invariant, a step gives one that meets it. -/
def Obligations.StepKeepsInvariant : Prop := ∀ s t : State, s.Inv → step s = .next t → t.Inv

/-- R28, R175: a host that does its duty keeps the low nibble of F at 0 by every write it may make between steps.
The invariant's other clause, the canonical form of memory, is the model's choice (DESIGN CHOICE, log 7); that host
actions are apart from `step`, and what `dutiful` asks, are log 9 (DEDUCED). -/
def Obligations.DutifulHostKeepsInvariant : Prop :=
  ∀ (s : State) (x : HostAction), s.Inv → x.dutiful = true → (s.applyHostAction x).Inv

/-! ### Fetch, decode, encode -/

/-- R130, R132: when the bytes from PC decode to an instruction, the step is that instruction's operation at that
state.  The model's part in it: `step` adds nothing around `exec`, because each meaning ends with the advance of PC
(DEDUCED, log 14; R130 performs that advance once, and by R132 dispatch does not write PC); three bytes go to the
decoder whatever the length (DEDUCED, log 6); and `i` may be `prefixCb`, whose `exec` is the fault of R135 (DESIGN
CHOICE, log 5). -/
def Obligations.StepRunsDecodedInstruction : Prop :=
  ∀ (s : State) (i : Instr),
    decode (s.memRead s.pc) (s.memRead (s.pc + 1#16)) (s.memRead (s.pc + 2#16)) = .ok i → step s = exec i s

/-- One word of each pattern of 30_encoding.md R64, written out from R61 to R64, decodes to what it stands for, INC (HL)
beside them, and 0x76, which R64 excludes, is rejected.  The clause on 0xCB is the model's choice (DESIGN CHOICE, log
5): R64 says that `ESC` is not an instruction by itself and R73 has the decoder answer Unimplemented(b1, prefixed =
true), where the model's decoder answers the term `prefixCb b1`, whose meaning raises that error. -/
def Obligations.SpecWordsDecodeRight : Prop :=
  decode 0b00000000#8 0xAA#8 0xBB#8 = .ok .nop ∧ decode 0b01111000#8 0xAA#8 0xBB#8 = .ok .ldAB ∧
    decode 0b00100001#8 0x34#8 0x12#8 = .ok (.ldHlD16 0x1234#16) ∧ decode 0b00110110#8 0x5A#8 0xBB#8 = .ok (.ldAtHlD8 0x5A#8) ∧
    decode 0b00001101#8 0xAA#8 0xBB#8 = .ok .decC ∧ decode 0b00110100#8 0xAA#8 0xBB#8 = .ok .incAtHl ∧
    decode 0b00111001#8 0xAA#8 0xBB#8 = .ok .addHlSp ∧ decode 0b10011100#8 0xAA#8 0xBB#8 = .ok .sbcAH ∧
    decode 0b11011110#8 0xFF#8 0xBB#8 = .ok (.sbcAD8 0xFF#8) ∧ decode 0b00000111#8 0xAA#8 0xBB#8 = .ok .rlca ∧
    decode 0b11001011#8 0x07#8 0xBB#8 = .ok (.prefixCb 0x07#8) ∧
    decode 0b01110110#8 0xAA#8 0xBB#8 = .error (.unimplemented 0x76#8)

/-- R61, R63, R65, R73: decoding an instruction's bytes gives it back, with every operand at every value, whatever
bytes follow.  For the 133 implemented instructions this is the spec's; for `prefixCb` the answer `ok` is the model's
choice (DESIGN CHOICE, log 5), where R73 has the decoder answer Unimplemented(b1, prefixed = true). -/
def Obligations.DecodeOfEncodeIsTheInstruction : Prop :=
  ∀ (i : Instr) (rest : List Byte),
    decode ((encode i ++ rest).getD 0 0#8) ((encode i ++ rest).getD 1 0#8) ((encode i ++ rest).getD 2 0#8) = .ok i

/-- The bytes the decoder accepts are the encoding of what it answers: no two words stand for one instruction with
the same operands, and every accepted first byte is the one of the opcode map (30_encoding.md R65, R71).  That `ESC` is
among the accepted first bytes is the model's choice (DESIGN CHOICE, log 5), where R73 answers Unimplemented(b1,
prefixed = true). -/
def Obligations.DecodedBytesAreTheEncoding : Prop :=
  ∀ (b0 b1 b2 : Byte) (i : Instr), decode b0 b1 b2 = .ok i → ∃ rest, [b0, b1, b2] = encode i ++ rest

/-- R68: the unimplemented bytes are exactly the 122 of the list, and a step at one of them raises
UnimplementedOpcode and changes no state. -/
def Obligations.UnimplementedBytesAreTheListed122 : Prop :=
  unimplementedBytes.length = 122 ∧ unimplementedBytes.Nodup ∧
    (∀ b0 b1 b2 : Byte, decode b0 b1 b2 = .error (.unimplemented b0) ↔ isUnimplemented b0 = true) ∧
    ∀ s : State, isUnimplemented (opcodeAt s) = true →
      step s = .fault (.unimplementedOpcode (opcodeAt s) false s.pc) ∧ ∀ k, (runFor k s).final = s

/-! ### The exception -/

/-- R135: at `ESC` the step raises the exception with the second byte, prefixed, and the PC of `ESC`; nothing
changes.  The second byte of an `ESC` at 0xFFFF is the one at 0x0000, since `s.pc + 1` wraps. -/
def Obligations.EscapeByteRaisesPrefixed : Prop :=
  ∀ (s : State) (v : Byte),
    exec (.prefixCb v) s = .fault (.unimplementedOpcode v true s.pc) ∧
      (opcodeAt s = 0xCB#8 →
        step s = .fault (.unimplementedOpcode (s.memRead (s.pc + 1#16)) true s.pc) ∧ ∀ k, (runFor k s).final = s)

/-- R155, R157: the exception table is complete.  A step faults in exactly these two ways, with these fields. -/
def Obligations.StepFaultsExactlyAsTheTable : Prop :=
  ∀ (s : State) (r : Fault),
    step s = .fault r ↔
      (isUnimplemented (opcodeAt s) = true ∧ r = .unimplementedOpcode (opcodeAt s) false s.pc) ∨
        (opcodeAt s = 0xCB#8 ∧ r = .unimplementedOpcode (s.memRead (s.pc + 1#16)) true s.pc)

/-- R11, R154: a step is refused nowhere, and it completes at every implemented first byte, whatever the state. -/
def Obligations.StepCompletesAtEveryImplementedByte : Prop :=
  ∀ s : State, (∀ r, step s ≠ .refused r) ∧
    (isUnimplemented (opcodeAt s) = false → opcodeAt s ≠ 0xCB#8 → ∃ t, step s = .next t)

/-! ### Whole-machine rules -/

/-- R31, R32, R70, R139: the only effect of a completed step on PC is to advance it by the length that the first
byte alone tells, modulo 65536. -/
def Obligations.CompletedStepAdvancesPcByLength : Prop :=
  ∀ s t : State, step s = .next t → t.pc.toNat = (s.pc.toNat + lengthOf (opcodeAt s)) % 65536

/-- R139: after `k` successful steps PC is the start PC plus the sum of the lengths, modulo 65536. -/
def Obligations.PcAfterRunIsStartPlusLengths : Prop :=
  ∀ (k : Nat) (s : State), (runFor k s).final.pc.toNat = (s.pc.toNat + lengthSum k s) % 65536

/-- R141, R153: a run that ends by an error ends in a state where the step raises that error, and invoking `step`
more often changes neither the state nor the error. -/
def Obligations.ErrorEndsTheRunForGood : Prop :=
  ∀ (k : Nat) (s : State) (r : Fault), (runFor k s).stop = .error r →
    step (runFor k s).final = .fault r ∧ ∀ j, runFor (k + j) s = runFor k s

/-- R133, R173: where all of memory is zero the machine executes NOP for ever: only PC moves, round the address
space. -/
def Obligations.ZeroMemoryExecutesNopForEver : Prop :=
  ∀ (k : Nat) (s : State), (∀ x : Word, s.memRead x = 0x00#8) →
    runFor k s = { final := { s with pc := s.pc + BitVec.ofNat 16 k }, steps := k, stop := .hostStopped }

/-- R30, R37: no instruction reads Z, N or Hf.  Two states that differ only in bits of F other than Cy step alike: the
next states agree in everything but F, and in F each bit that the opcode writes (R30) is the same in both, while each
bit that it does not write is the one its own state had.  So no register, memory byte or flag is computed from Z, N or
Hf.  The same holds of bits 3 to 0, which no instruction reads or writes (R37, log 4). -/
def Obligations.NoInstructionReadsZNOrHf : Prop :=
  ∀ (s t : State) (g : Byte), g.getLsbD 4 = s.f.getLsbD 4 → step s = .next t →
    step { s with f := g } =
      .next { t with f := (t.f &&& flagsWritten (opcodeAt s)) ||| (g &&& ~~~flagsWritten (opcodeAt s)) }

/-- R24, R37: SP is written only by LD SP,d16 (0x31) and read only by ADD HL,SP (0x39). -/
def Obligations.SpIsUsedByTwoInstructionsOnly : Prop :=
  ∀ (s t : State), step s = .next t →
    (opcodeAt s ≠ 0x31#8 → t.sp = s.sp) ∧
      (opcodeAt s ≠ 0x39#8 → ∀ v : Word,
        step { s with sp := v } = .next { t with sp := if opcodeAt s = 0x31#8 then t.sp else v })

/-- R37, R43: a step changes memory only at a `(HL)` destination, and then only the byte at the HL of its start. -/
def Obligations.MemoryChangesOnlyAtHlDestinations : Prop :=
  ∀ (s t : State), step s = .next t →
    memoryKeptBut s t s.hl ∧ (storeBytesOfTable.contains (opcodeAt s).toNat = false → memoryKept s t)

/-- The unwritten flags of R30's table: NOP and loads leave F, INC and DEC leave Cy, ADD HL leaves Z, and no step
touches the low nibble. -/
def Obligations.UnwrittenFlagsStayAsTabled : Prop :=
  ∀ (s t : State), step s = .next t →
    (writesNoFlag (opcodeAt s) = true → t.f = s.f) ∧
      (isIncDec (opcodeAt s) = true → t.f.getLsbD 4 = s.f.getLsbD 4) ∧
      (isAddHl (opcodeAt s) = true → t.f.getLsbD 7 = s.f.getLsbD 7) ∧ lowNibbleKept s t

/-- R54: a store by one step is seen by the fetch of the next.  LD (HL),r with HL the address of the next
instruction: the next step runs what the stored byte decodes to (the decoder's three bytes and the term `prefixCb`:
log 6 and log 5). -/
def Obligations.StoreIsSeenByTheNextFetch : Prop :=
  ∀ (s : State) (r : Reg8) (i : Instr), bytesAt s s.pc [byte (0x70 + regField r)] = true → s.hl = s.pc + 1#16 →
    decode (s.readReg8 r) (s.memRead (s.pc + 2#16)) (s.memRead (s.pc + 3#16)) = .ok i →
    ∃ t, step s = .next t ∧ step t = exec i t

/-- R54, R111: INC (HL) with HL = PC completes as fetched and leaves 0x35 where its own opcode 0x34 was. -/
def Obligations.IncrementOfItsOwnOpcodeByte : Prop :=
  ∀ s : State, bytesAt s s.pc [0x34#8] = true → s.hl = s.pc →
    ∃ t, step s = .next t ∧ t.memRead s.pc = 0x35#8 ∧ t.pc = s.pc + 1#16 ∧ memoryKeptBut s t s.pc

/-! ### Memory and the host's image -/

/-- R43: `MemWrite` stores the byte at its address and changes nothing else. -/
def Obligations.MemWriteChangesOneByte : Prop :=
  ∀ (s : State) (addr x : Word) (v : Byte),
    (s.memWrite addr v).memRead x = (if x = addr then v else s.memRead x) ∧
      { s.memWrite addr v with mem := s.mem } = s

/-- The canonical form is one (log 7): canonical memories that read alike at every address are equal. -/
def Obligations.CanonicalMemoryIsDeterminedByReads : Prop :=
  ∀ s t : State, Memory.wf s.mem = true → Memory.wf t.mem = true → memoryKept s t → s.mem = t.mem

/-- R173: after the load, memory is the image where it is defined and what it was elsewhere (0x00 from reset), and
no register changed. -/
def Obligations.LoadedMemoryIsTheImage : Prop :=
  ∀ (s : State) (image : List (Word × Byte)),
    (∀ x : Word, (s.loadImage image).memRead x = (imageByte image x).getD (s.memRead x)) ∧
      (∀ x : Word, (State.reset.loadImage image).memRead x = (imageByte image x).getD 0x00#8) ∧
      { s.loadImage image with mem := s.mem } = s

/-! ### The register file -/

/-- R22, R23: pair views are the high register times 256 plus the low one, a pair write splits the value, and AF
reads and writes with the low nibble of F as 0. -/
def Obligations.PairViewsAndPairWrites : Prop :=
  ∀ (s : State) (v : Word),
    (s.readRp .bc).toNat = s.b.toNat * 256 + s.c.toNat ∧ (s.readRp .de).toNat = s.d.toNat * 256 + s.e.toNat ∧
      (s.readRp .hl).toNat = s.h.toNat * 256 + s.l.toNat ∧ s.af.toNat = s.a.toNat * 256 + s.f.toNat / 16 * 16 ∧
      s.writeRp .bc v = { s with b := byte (v.toNat / 256), c := byte v.toNat } ∧
      s.writeRp .de v = { s with d := byte (v.toNat / 256), e := byte v.toNat } ∧
      s.writeRp .hl v = { s with h := byte (v.toNat / 256), l := byte v.toNat } ∧
      s.writeAf v = { s with a := byte (v.toNat / 256), f := byte (v.toNat % 256 / 16 * 16) } ∧
      (∀ p : Rp, (s.writeRp p v).readRp p = v) ∧ (s.writeAf v).af = v &&& 0xFFF0#16

/-- R21: each register is an independent stored field; writing one never changes another, nor F, SP, PC, memory. -/
def Obligations.RegisterWritesAreIndependent : Prop :=
  ∀ (s : State) (r : Reg8) (v : Byte),
    registerSet s (s.writeReg8 r v) r v ∧ (s.writeReg8 r v).f = s.f ∧ (s.writeReg8 r v).sp = s.sp ∧
      (s.writeReg8 r v).pc = s.pc ∧ (s.writeReg8 r v).mem = s.mem

/-- R27, R29: the getters and setters of the four flags, each by its bit of F, no other bit touched; and the four
setter calls leave the packed form where the low nibble was 0. -/
def Obligations.FlagAccessorsTouchOneBit : Prop :=
  ∀ s : State,
    (s.flag .z = s.f.getLsbD 7 ∧ s.flag .n = s.f.getLsbD 6 ∧ s.flag .hf = s.f.getLsbD 5 ∧ s.flag .cy = s.f.getLsbD 4) ∧
      (∀ (x : Flag) (v : Bool), (s.setFlag x v).flag x = v ∧ (∀ y, y ≠ x → (s.setFlag x v).flag y = s.flag y) ∧
        lowNibbleKept s (s.setFlag x v) ∧ { s.setFlag x v with f := s.f } = s) ∧
      ∀ z n h c : Bool, s.f &&& 0x0F#8 = 0x00#8 →
        ((((s.setFlag .z z).setFlag .n n).setFlag .hf h).setFlag .cy c).f = packedFlags z n h c

/-- R32: `increment_pc` advances PC modulo 65536 and changes nothing else. -/
def Obligations.IncrementPcWraps : Prop :=
  ∀ (s : State) (delta : Word),
    (s.incrementPc delta).pc.toNat = (s.pc.toNat + delta.toNat) % 65536 ∧ { s.incrementPc delta with pc := s.pc } = s

/-! ### NOP and loads -/

/-- R133: NOP advances PC by 1 and nothing else changes. -/
def Obligations.NopOnlyAdvancesPc : Prop :=
  ∀ s : State, Does s .nop [0x00#8] (fun t => t = { s with pc := s.pc + 1#16 })

/-- R120: LD r,r' copies a register. -/
def Obligations.LoadRegisterFromRegister : Prop :=
  ∀ (s : State) (dst src : Reg8),
    Does s (.ldRR dst src) [byte (0x40 + 8 * regField dst + regField src)]
      (fun t => loadPost s t 1#16 dst (s.readReg8 src))

/-- R121: LD r,(HL) loads the byte at the HL of the start of the step, for LD H,(HL) and LD L,(HL) too. -/
def Obligations.LoadRegisterFromMemory : Prop :=
  ∀ (s : State) (dst : Reg8),
    Does s (.ldRAtHl dst) [byte (0x46 + 8 * regField dst)] (fun t => loadPost s t 1#16 dst (s.memRead s.hl))

/-- R122: LD (HL),r stores a register, H and L among them, at HL. -/
def Obligations.StoreRegisterToMemory : Prop :=
  ∀ (s : State) (src : Reg8),
    Does s (.ldAtHlR src) [byte (0x70 + regField src)] (fun t => storePost s t 1#16 (s.readReg8 src))

/-- R123: LD r,d8. -/
def Obligations.LoadRegisterImmediate : Prop :=
  ∀ (s : State) (dst : Reg8) (v : Byte),
    Does s (.ldD8 (.reg dst) v) [byte (0x06 + 8 * regField dst), v] (fun t => loadPost s t 2#16 dst v)

/-- R124: LD (HL),d8. -/
def Obligations.StoreImmediateToMemory : Prop :=
  ∀ (s : State) (v : Byte), Does s (.ldAtHlD8 v) [0x36#8, v] (fun t => storePost s t 2#16 v)

/-- R125: LD BC,d16, LD DE,d16, LD HL,d16: low byte first in memory, the high byte into the high register. -/
def Obligations.LoadPairImmediate : Prop :=
  ∀ (s : State) (hi lo : Byte),
    let rest (t : State) : Prop := t.f = s.f ∧ t.sp = s.sp ∧ t.pc = s.pc + 3#16 ∧ memoryKept s t
    Does s (.ldBcD16 (hi ++ lo)) [0x01#8, lo, hi]
        (fun t => t.b = hi ∧ t.c = lo ∧ (∀ x, x ≠ .b → x ≠ .c → t.readReg8 x = s.readReg8 x) ∧ rest t) ∧
      Does s (.ldDeD16 (hi ++ lo)) [0x11#8, lo, hi]
        (fun t => t.d = hi ∧ t.e = lo ∧ (∀ x, x ≠ .d → x ≠ .e → t.readReg8 x = s.readReg8 x) ∧ rest t) ∧
      Does s (.ldHlD16 (hi ++ lo)) [0x21#8, lo, hi]
        (fun t => t.h = hi ∧ t.l = lo ∧ (∀ x, x ≠ .h → x ≠ .l → t.readReg8 x = s.readReg8 x) ∧ rest t)

/-- R126: LD SP,d16. -/
def Obligations.LoadStackPointerImmediate : Prop :=
  ∀ (s : State) (hi lo : Byte),
    Does s (.ldSpD16 (hi ++ lo)) [0x31#8, lo, hi]
      (fun t => t.sp = hi ++ lo ∧ registersKept s t ∧ t.f = s.f ∧ t.pc = s.pc + 3#16 ∧ memoryKept s t)

/-! ### 8-bit add and subtract -/

/-- R90, R91, R92: ADD A with r, (HL), d8. -/
def Obligations.AddWritesSumAndFlags : Prop :=
  ∀ s : State,
    let post (len : Word) (v : Byte) (t : State) : Prop :=
      accumulatorPost s t len ((s.a.toNat + v.toNat) % 256) false
        (decide (s.a.toNat % 16 + v.toNat % 16 > 0xF)) (decide (s.a.toNat + v.toNat > 0xFF))
    (∀ r : Reg8, Does s (.alu .add (.loc (.reg r))) [byte (0x80 + regField r)] (post 1#16 (s.readReg8 r))) ∧
      Does s .addAAtHl [0x86#8] (post 1#16 (s.memRead s.hl)) ∧
      ∀ v : Byte, Does s (.addAD8 v) [0xC6#8, v] (post 2#16 v)

/-- R93, R94, R95: ADC A with r, (HL), d8; the carry flag before the instruction is added. -/
def Obligations.AdcWritesSumWithCarryAndFlags : Prop :=
  ∀ s : State,
    let cin : Nat := (s.f.getLsbD 4).toNat
    let post (len : Word) (v : Byte) (t : State) : Prop :=
      accumulatorPost s t len ((s.a.toNat + v.toNat + cin) % 256) false
        (decide (s.a.toNat % 16 + v.toNat % 16 + cin > 0xF)) (decide (s.a.toNat + v.toNat + cin > 0xFF))
    (∀ r : Reg8, Does s (.alu .adc (.loc (.reg r))) [byte (0x88 + regField r)] (post 1#16 (s.readReg8 r))) ∧
      Does s .adcAAtHl [0x8E#8] (post 1#16 (s.memRead s.hl)) ∧
      ∀ v : Byte, Does s (.adcAD8 v) [0xCE#8, v] (post 2#16 v)

/-- R96, R97, R98: SUB with r, (HL), d8. -/
def Obligations.SubWritesDifferenceAndFlags : Prop :=
  ∀ s : State,
    let post (len : Word) (v : Byte) (t : State) : Prop :=
      accumulatorPost s t len ((s.a.toNat + 256 - v.toNat) % 256) true
        (decide (s.a.toNat % 16 < v.toNat % 16)) (decide (s.a.toNat < v.toNat))
    (∀ r : Reg8, Does s (.alu .sub (.loc (.reg r))) [byte (0x90 + regField r)] (post 1#16 (s.readReg8 r))) ∧
      Does s .subAtHl [0x96#8] (post 1#16 (s.memRead s.hl)) ∧
      ∀ v : Byte, Does s (.subD8 v) [0xD6#8, v] (post 2#16 v)

/-- R99, R100, R101: SBC A with r, (HL), d8; the carry flag before the instruction is subtracted, and both borrow
comparisons are without wrap-around. -/
def Obligations.SbcWritesDifferenceWithBorrowAndFlags : Prop :=
  ∀ s : State,
    let cin : Nat := (s.f.getLsbD 4).toNat
    let post (len : Word) (v : Byte) (t : State) : Prop :=
      accumulatorPost s t len ((s.a.toNat + 256 - (v.toNat + cin)) % 256) true
        (decide (s.a.toNat % 16 < v.toNat % 16 + cin)) (decide (s.a.toNat < v.toNat + cin))
    (∀ r : Reg8, Does s (.alu .sbc (.loc (.reg r))) [byte (0x98 + regField r)] (post 1#16 (s.readReg8 r))) ∧
      Does s .sbcAAtHl [0x9E#8] (post 1#16 (s.memRead s.hl)) ∧
      ∀ v : Byte, Does s (.sbcAD8 v) [0xDE#8, v] (post 2#16 v)

/-- R96, R99 (corner cases): SUB A gives 0 with Z and N only; SBC A,A gives 0 or 0xFF as the old carry was. -/
def Obligations.SubtractingAFromItself : Prop :=
  ∀ s : State,
    (∃ t, exec .subA s = .next t ∧ t.a = 0x00#8 ∧ flagsAre t true true false false) ∧
      ∃ t, exec .sbcAA s = .next t ∧ t.a = (if s.f.getLsbD 4 then 0xFF#8 else 0x00#8) ∧
        flagsAre t (!s.f.getLsbD 4) true (s.f.getLsbD 4) (s.f.getLsbD 4)

/-- R87, R180 (derived): ADD on the low bytes, then ADC on the high bytes with the carry it left, is the 16-bit sum,
and the last carry is the carry out of it. -/
def Obligations.AddThenAdcIsSixteenBitAddition : Prop :=
  ∀ (s : State) (x y : Word), s.a = loByte x →
    ∃ t, exec (.addAD8 (loByte y)) s = .next t ∧
      ∃ u, exec (.adcAD8 (hiByte y)) (t.writeReg8 .a (hiByte x)) = .next u ∧
        (u.a ++ t.a : Word) = x + y ∧ u.f.getLsbD 4 = decide (x.toNat + y.toNat > 0xFFFF)

/-- R87, R180 (derived): SUB on the low bytes, then SBC on the high bytes, is the 16-bit difference, and the last
carry is the borrow out of it. -/
def Obligations.SubThenSbcIsSixteenBitSubtraction : Prop :=
  ∀ (s : State) (x y : Word), s.a = loByte x →
    ∃ t, exec (.subD8 (loByte y)) s = .next t ∧
      ∃ u, exec (.sbcAD8 (hiByte y)) (t.writeReg8 .a (hiByte x)) = .next u ∧
        (u.a ++ t.a : Word) = x - y ∧ u.f.getLsbD 4 = decide (x.toNat < y.toNat)

/-! ### Increment, decrement, 16-bit add, rotate -/

/-- R110, R111: INC r and INC (HL); Cy is not written. -/
def Obligations.IncWritesSuccessorAndThreeFlags : Prop :=
  ∀ s : State,
    let flags (x : Byte) (t : State) : Prop :=
      flagsAre t (decide ((x.toNat + 1) % 256 = 0)) false (decide (x.toNat % 16 = 0xF)) (s.f.getLsbD 4) ∧
        lowNibbleKept s t ∧ t.sp = s.sp ∧ t.pc = s.pc + 1#16
    (∀ r : Reg8, Does s (.inc8 (.reg r)) [byte (0x04 + 8 * regField r)] (fun t =>
        registerSet s t r (byte ((s.readReg8 r).toNat + 1)) ∧ flags (s.readReg8 r) t ∧ memoryKept s t)) ∧
      Does s .incAtHl [0x34#8] (fun t =>
        t.memRead s.hl = byte ((s.memRead s.hl).toNat + 1) ∧ memoryKeptBut s t s.hl ∧ registersKept s t ∧
          flags (s.memRead s.hl) t)

/-- R112, R113: DEC r and DEC (HL); Cy is not written. -/
def Obligations.DecWritesPredecessorAndThreeFlags : Prop :=
  ∀ s : State,
    let flags (x : Byte) (t : State) : Prop :=
      flagsAre t (decide (x.toNat = 1)) true (decide (x.toNat % 16 = 0)) (s.f.getLsbD 4) ∧
        lowNibbleKept s t ∧ t.sp = s.sp ∧ t.pc = s.pc + 1#16
    (∀ r : Reg8, Does s (.dec8 (.reg r)) [byte (0x05 + 8 * regField r)] (fun t =>
        registerSet s t r (byte ((s.readReg8 r).toNat + 255)) ∧ flags (s.readReg8 r) t ∧ memoryKept s t)) ∧
      Does s .decAtHl [0x35#8] (fun t =>
        t.memRead s.hl = byte ((s.memRead s.hl).toNat + 255) ∧ memoryKeptBut s t s.hl ∧ registersKept s t ∧
          flags (s.memRead s.hl) t)

/-- R114, R115: ADD HL with BC, DE, HL and SP; Z is not written, the half-carry is out of bit 11. -/
def Obligations.AddToHlWritesSumAndThreeFlags : Prop :=
  ∀ (s : State) (p : Rp),
    Does s (.addHl p) [byte (0x09 + 16 * pairField p)] (fun t =>
      t.h = byte ((s.hl.toNat + (s.readRp p).toNat) % 65536 / 256) ∧ t.l = byte (s.hl.toNat + (s.readRp p).toNat) ∧
        (∀ x, x ≠ .h → x ≠ .l → t.readReg8 x = s.readReg8 x) ∧
        flagsAre t (s.f.getLsbD 7) false (decide (s.hl.toNat % 4096 + (s.readRp p).toNat % 4096 > 0x0FFF))
          (decide (s.hl.toNat + (s.readRp p).toNat > 0xFFFF)) ∧
        lowNibbleKept s t ∧ t.sp = s.sp ∧ t.pc = s.pc + 1#16 ∧ memoryKept s t)

/-- R116: RLCA rotates A left circularly; Z is that of the result (log 2), Cy the old bit 7.  Eight in a row
restore A. -/
def Obligations.RlcaRotatesA : Prop :=
  ∀ s : State,
    Does s .rlca [0x07#8] (fun t =>
      registerSet s t .a (byte (s.a.toNat * 2 % 256 + s.a.toNat / 128)) ∧
        flagsAre t (decide (s.a = 0x00#8)) false false (s.a.getLsbD 7) ∧
        lowNibbleKept s t ∧ t.sp = s.sp ∧ t.pc = s.pc + 1#16 ∧ memoryKept s t) ∧
      ∃ t, execTimes 8 .rlca s = .next t ∧ t.a = s.a

/-- R49, R123, R125: an instruction that runs over the top of memory reads its operands at 0x0000 and 0x0001. -/
def Obligations.OperandAddressesWrapAtTheTop : Prop :=
  ∀ (s : State) (hi lo : Byte), s.pc = 0xFFFF#16 → s.memRead 0x0000#16 = lo →
    (s.memRead 0xFFFF#16 = 0x3E#8 → ∃ t, step s = .next t ∧ t.a = lo ∧ t.pc = 0x0001#16) ∧
      (s.memRead 0xFFFF#16 = 0x21#8 → s.memRead 0x0001#16 = hi →
        ∃ t, step s = .next t ∧ t.h = hi ∧ t.l = lo ∧ t.pc = 0x0002#16)
end

