-- ==== Sys2Proof/Laws/State.lean ====
section
/-!
SUPPORT. What each register update leaves in each field of the state: true by unfolding the update once, so that no
later proof unfolds a record update.
-/

namespace Sys2Proof.Machine

variable (s : State)

/-! ### Reading a register by name -/

@[simp] theorem readReg8_a : s.readReg8 .a = s.a := rfl
@[simp] theorem readReg8_b : s.readReg8 .b = s.b := rfl
@[simp] theorem readReg8_c : s.readReg8 .c = s.c := rfl
@[simp] theorem readReg8_d : s.readReg8 .d = s.d := rfl
@[simp] theorem readReg8_e : s.readReg8 .e = s.e := rfl
@[simp] theorem readReg8_h : s.readReg8 .h = s.h := rfl
@[simp] theorem readReg8_l : s.readReg8 .l = s.l := rfl

/-! ### `writeReg8` -/

@[simp] theorem writeReg8_f (r : Reg8) (v : Byte) : (s.writeReg8 r v).f = s.f := by cases r <;> rfl
@[simp] theorem writeReg8_sp (r : Reg8) (v : Byte) : (s.writeReg8 r v).sp = s.sp := by cases r <;> rfl
@[simp] theorem writeReg8_pc (r : Reg8) (v : Byte) : (s.writeReg8 r v).pc = s.pc := by cases r <;> rfl
@[simp] theorem writeReg8_mem (r : Reg8) (v : Byte) : (s.writeReg8 r v).mem = s.mem := by cases r <;> rfl
@[simp] theorem writeReg8_a_a (v : Byte) : (s.writeReg8 .a v).a = v := rfl
@[simp] theorem writeReg8_a_b (v : Byte) : (s.writeReg8 .a v).b = s.b := rfl
@[simp] theorem writeReg8_a_c (v : Byte) : (s.writeReg8 .a v).c = s.c := rfl
@[simp] theorem writeReg8_a_d (v : Byte) : (s.writeReg8 .a v).d = s.d := rfl
@[simp] theorem writeReg8_a_e (v : Byte) : (s.writeReg8 .a v).e = s.e := rfl
@[simp] theorem writeReg8_a_h (v : Byte) : (s.writeReg8 .a v).h = s.h := rfl
@[simp] theorem writeReg8_a_l (v : Byte) : (s.writeReg8 .a v).l = s.l := rfl
@[simp] theorem writeReg8_b_a (v : Byte) : (s.writeReg8 .b v).a = s.a := rfl
@[simp] theorem writeReg8_b_b (v : Byte) : (s.writeReg8 .b v).b = v := rfl
@[simp] theorem writeReg8_b_c (v : Byte) : (s.writeReg8 .b v).c = s.c := rfl
@[simp] theorem writeReg8_b_d (v : Byte) : (s.writeReg8 .b v).d = s.d := rfl
@[simp] theorem writeReg8_b_e (v : Byte) : (s.writeReg8 .b v).e = s.e := rfl
@[simp] theorem writeReg8_b_h (v : Byte) : (s.writeReg8 .b v).h = s.h := rfl
@[simp] theorem writeReg8_b_l (v : Byte) : (s.writeReg8 .b v).l = s.l := rfl
@[simp] theorem writeReg8_c_a (v : Byte) : (s.writeReg8 .c v).a = s.a := rfl
@[simp] theorem writeReg8_c_b (v : Byte) : (s.writeReg8 .c v).b = s.b := rfl
@[simp] theorem writeReg8_c_c (v : Byte) : (s.writeReg8 .c v).c = v := rfl
@[simp] theorem writeReg8_c_d (v : Byte) : (s.writeReg8 .c v).d = s.d := rfl
@[simp] theorem writeReg8_c_e (v : Byte) : (s.writeReg8 .c v).e = s.e := rfl
@[simp] theorem writeReg8_c_h (v : Byte) : (s.writeReg8 .c v).h = s.h := rfl
@[simp] theorem writeReg8_c_l (v : Byte) : (s.writeReg8 .c v).l = s.l := rfl
@[simp] theorem writeReg8_d_a (v : Byte) : (s.writeReg8 .d v).a = s.a := rfl
@[simp] theorem writeReg8_d_b (v : Byte) : (s.writeReg8 .d v).b = s.b := rfl
@[simp] theorem writeReg8_d_c (v : Byte) : (s.writeReg8 .d v).c = s.c := rfl
@[simp] theorem writeReg8_d_d (v : Byte) : (s.writeReg8 .d v).d = v := rfl
@[simp] theorem writeReg8_d_e (v : Byte) : (s.writeReg8 .d v).e = s.e := rfl
@[simp] theorem writeReg8_d_h (v : Byte) : (s.writeReg8 .d v).h = s.h := rfl
@[simp] theorem writeReg8_d_l (v : Byte) : (s.writeReg8 .d v).l = s.l := rfl
@[simp] theorem writeReg8_e_a (v : Byte) : (s.writeReg8 .e v).a = s.a := rfl
@[simp] theorem writeReg8_e_b (v : Byte) : (s.writeReg8 .e v).b = s.b := rfl
@[simp] theorem writeReg8_e_c (v : Byte) : (s.writeReg8 .e v).c = s.c := rfl
@[simp] theorem writeReg8_e_d (v : Byte) : (s.writeReg8 .e v).d = s.d := rfl
@[simp] theorem writeReg8_e_e (v : Byte) : (s.writeReg8 .e v).e = v := rfl
@[simp] theorem writeReg8_e_h (v : Byte) : (s.writeReg8 .e v).h = s.h := rfl
@[simp] theorem writeReg8_e_l (v : Byte) : (s.writeReg8 .e v).l = s.l := rfl
@[simp] theorem writeReg8_h_a (v : Byte) : (s.writeReg8 .h v).a = s.a := rfl
@[simp] theorem writeReg8_h_b (v : Byte) : (s.writeReg8 .h v).b = s.b := rfl
@[simp] theorem writeReg8_h_c (v : Byte) : (s.writeReg8 .h v).c = s.c := rfl
@[simp] theorem writeReg8_h_d (v : Byte) : (s.writeReg8 .h v).d = s.d := rfl
@[simp] theorem writeReg8_h_e (v : Byte) : (s.writeReg8 .h v).e = s.e := rfl
@[simp] theorem writeReg8_h_h (v : Byte) : (s.writeReg8 .h v).h = v := rfl
@[simp] theorem writeReg8_h_l (v : Byte) : (s.writeReg8 .h v).l = s.l := rfl
@[simp] theorem writeReg8_l_a (v : Byte) : (s.writeReg8 .l v).a = s.a := rfl
@[simp] theorem writeReg8_l_b (v : Byte) : (s.writeReg8 .l v).b = s.b := rfl
@[simp] theorem writeReg8_l_c (v : Byte) : (s.writeReg8 .l v).c = s.c := rfl
@[simp] theorem writeReg8_l_d (v : Byte) : (s.writeReg8 .l v).d = s.d := rfl
@[simp] theorem writeReg8_l_e (v : Byte) : (s.writeReg8 .l v).e = s.e := rfl
@[simp] theorem writeReg8_l_h (v : Byte) : (s.writeReg8 .l v).h = s.h := rfl
@[simp] theorem writeReg8_l_l (v : Byte) : (s.writeReg8 .l v).l = v := rfl

@[simp] theorem readReg8_writeReg8 (r x : Reg8) (v : Byte) :
    (s.writeReg8 r v).readReg8 x = if x = r then v else s.readReg8 x := by
  cases r <;> cases x <;> rfl

@[simp] theorem memRead_writeReg8 (r : Reg8) (v : Byte) (x : Word) : (s.writeReg8 r v).memRead x = s.memRead x := by
  cases r <;> rfl

/-! ### `writeF` -/

@[simp] theorem writeF_a (v : Byte) : (s.writeF v).a = s.a := rfl
@[simp] theorem writeF_f (v : Byte) : (s.writeF v).f = v := rfl
@[simp] theorem writeF_b (v : Byte) : (s.writeF v).b = s.b := rfl
@[simp] theorem writeF_c (v : Byte) : (s.writeF v).c = s.c := rfl
@[simp] theorem writeF_d (v : Byte) : (s.writeF v).d = s.d := rfl
@[simp] theorem writeF_e (v : Byte) : (s.writeF v).e = s.e := rfl
@[simp] theorem writeF_h (v : Byte) : (s.writeF v).h = s.h := rfl
@[simp] theorem writeF_l (v : Byte) : (s.writeF v).l = s.l := rfl
@[simp] theorem writeF_sp (v : Byte) : (s.writeF v).sp = s.sp := rfl
@[simp] theorem writeF_pc (v : Byte) : (s.writeF v).pc = s.pc := rfl
@[simp] theorem writeF_mem (v : Byte) : (s.writeF v).mem = s.mem := rfl
@[simp] theorem readReg8_writeF (v : Byte) (r : Reg8) : (s.writeF v).readReg8 r = s.readReg8 r := by cases r <;> rfl
@[simp] theorem hl_writeF (v : Byte) : (s.writeF v).hl = s.hl := rfl
@[simp] theorem memRead_writeF (v : Byte) (y : Word) : (s.writeF v).memRead y = s.memRead y := rfl
@[simp] theorem readRp_writeF (v : Byte) (p : Rp) : (s.writeF v).readRp p = s.readRp p := by cases p <;> rfl

/-! ### `writeFlags` -/

@[simp] theorem writeFlags_a (o : FlagOutcome) : (s.writeFlags o).a = s.a := rfl
@[simp] theorem writeFlags_f (o : FlagOutcome) : (s.writeFlags o).f = applyFlags s.f o := rfl
@[simp] theorem writeFlags_b (o : FlagOutcome) : (s.writeFlags o).b = s.b := rfl
@[simp] theorem writeFlags_c (o : FlagOutcome) : (s.writeFlags o).c = s.c := rfl
@[simp] theorem writeFlags_d (o : FlagOutcome) : (s.writeFlags o).d = s.d := rfl
@[simp] theorem writeFlags_e (o : FlagOutcome) : (s.writeFlags o).e = s.e := rfl
@[simp] theorem writeFlags_h (o : FlagOutcome) : (s.writeFlags o).h = s.h := rfl
@[simp] theorem writeFlags_l (o : FlagOutcome) : (s.writeFlags o).l = s.l := rfl
@[simp] theorem writeFlags_sp (o : FlagOutcome) : (s.writeFlags o).sp = s.sp := rfl
@[simp] theorem writeFlags_pc (o : FlagOutcome) : (s.writeFlags o).pc = s.pc := rfl
@[simp] theorem writeFlags_mem (o : FlagOutcome) : (s.writeFlags o).mem = s.mem := rfl
@[simp] theorem readReg8_writeFlags (o : FlagOutcome) (r : Reg8) : (s.writeFlags o).readReg8 r = s.readReg8 r := by cases r <;> rfl
@[simp] theorem hl_writeFlags (o : FlagOutcome) : (s.writeFlags o).hl = s.hl := rfl
@[simp] theorem memRead_writeFlags (o : FlagOutcome) (y : Word) : (s.writeFlags o).memRead y = s.memRead y := rfl
@[simp] theorem readRp_writeFlags (o : FlagOutcome) (p : Rp) : (s.writeFlags o).readRp p = s.readRp p := by cases p <;> rfl

/-! ### `setFlag` -/

@[simp] theorem setFlag_a (x : Flag) (v : Bool) : (s.setFlag x v).a = s.a := rfl
@[simp] theorem setFlag_f (x : Flag) (v : Bool) : (s.setFlag x v).f = putFlag s.f x v := rfl
@[simp] theorem setFlag_b (x : Flag) (v : Bool) : (s.setFlag x v).b = s.b := rfl
@[simp] theorem setFlag_c (x : Flag) (v : Bool) : (s.setFlag x v).c = s.c := rfl
@[simp] theorem setFlag_d (x : Flag) (v : Bool) : (s.setFlag x v).d = s.d := rfl
@[simp] theorem setFlag_e (x : Flag) (v : Bool) : (s.setFlag x v).e = s.e := rfl
@[simp] theorem setFlag_h (x : Flag) (v : Bool) : (s.setFlag x v).h = s.h := rfl
@[simp] theorem setFlag_l (x : Flag) (v : Bool) : (s.setFlag x v).l = s.l := rfl
@[simp] theorem setFlag_sp (x : Flag) (v : Bool) : (s.setFlag x v).sp = s.sp := rfl
@[simp] theorem setFlag_pc (x : Flag) (v : Bool) : (s.setFlag x v).pc = s.pc := rfl
@[simp] theorem setFlag_mem (x : Flag) (v : Bool) : (s.setFlag x v).mem = s.mem := rfl
@[simp] theorem readReg8_setFlag (x : Flag) (v : Bool) (r : Reg8) : (s.setFlag x v).readReg8 r = s.readReg8 r := by cases r <;> rfl
@[simp] theorem hl_setFlag (x : Flag) (v : Bool) : (s.setFlag x v).hl = s.hl := rfl
@[simp] theorem memRead_setFlag (x : Flag) (v : Bool) (y : Word) : (s.setFlag x v).memRead y = s.memRead y := rfl
@[simp] theorem readRp_setFlag (x : Flag) (v : Bool) (p : Rp) : (s.setFlag x v).readRp p = s.readRp p := by cases p <;> rfl

/-! ### `writeSp` -/

@[simp] theorem writeSp_a (v : Word) : (s.writeSp v).a = s.a := rfl
@[simp] theorem writeSp_f (v : Word) : (s.writeSp v).f = s.f := rfl
@[simp] theorem writeSp_b (v : Word) : (s.writeSp v).b = s.b := rfl
@[simp] theorem writeSp_c (v : Word) : (s.writeSp v).c = s.c := rfl
@[simp] theorem writeSp_d (v : Word) : (s.writeSp v).d = s.d := rfl
@[simp] theorem writeSp_e (v : Word) : (s.writeSp v).e = s.e := rfl
@[simp] theorem writeSp_h (v : Word) : (s.writeSp v).h = s.h := rfl
@[simp] theorem writeSp_l (v : Word) : (s.writeSp v).l = s.l := rfl
@[simp] theorem writeSp_sp (v : Word) : (s.writeSp v).sp = v := rfl
@[simp] theorem writeSp_pc (v : Word) : (s.writeSp v).pc = s.pc := rfl
@[simp] theorem writeSp_mem (v : Word) : (s.writeSp v).mem = s.mem := rfl
@[simp] theorem readReg8_writeSp (v : Word) (r : Reg8) : (s.writeSp v).readReg8 r = s.readReg8 r := by cases r <;> rfl
@[simp] theorem hl_writeSp (v : Word) : (s.writeSp v).hl = s.hl := rfl
@[simp] theorem memRead_writeSp (v : Word) (y : Word) : (s.writeSp v).memRead y = s.memRead y := rfl

/-! ### `writePc` -/

@[simp] theorem writePc_a (v : Word) : (s.writePc v).a = s.a := rfl
@[simp] theorem writePc_f (v : Word) : (s.writePc v).f = s.f := rfl
@[simp] theorem writePc_b (v : Word) : (s.writePc v).b = s.b := rfl
@[simp] theorem writePc_c (v : Word) : (s.writePc v).c = s.c := rfl
@[simp] theorem writePc_d (v : Word) : (s.writePc v).d = s.d := rfl
@[simp] theorem writePc_e (v : Word) : (s.writePc v).e = s.e := rfl
@[simp] theorem writePc_h (v : Word) : (s.writePc v).h = s.h := rfl
@[simp] theorem writePc_l (v : Word) : (s.writePc v).l = s.l := rfl
@[simp] theorem writePc_sp (v : Word) : (s.writePc v).sp = s.sp := rfl
@[simp] theorem writePc_pc (v : Word) : (s.writePc v).pc = v := rfl
@[simp] theorem writePc_mem (v : Word) : (s.writePc v).mem = s.mem := rfl
@[simp] theorem readReg8_writePc (v : Word) (r : Reg8) : (s.writePc v).readReg8 r = s.readReg8 r := by cases r <;> rfl
@[simp] theorem hl_writePc (v : Word) : (s.writePc v).hl = s.hl := rfl
@[simp] theorem memRead_writePc (v : Word) (y : Word) : (s.writePc v).memRead y = s.memRead y := rfl
@[simp] theorem readRp_writePc (v : Word) (p : Rp) : (s.writePc v).readRp p = s.readRp p := by cases p <;> rfl

/-! ### `incrementPc` -/

@[simp] theorem incrementPc_a (n : Word) : (s.incrementPc n).a = s.a := rfl
@[simp] theorem incrementPc_f (n : Word) : (s.incrementPc n).f = s.f := rfl
@[simp] theorem incrementPc_b (n : Word) : (s.incrementPc n).b = s.b := rfl
@[simp] theorem incrementPc_c (n : Word) : (s.incrementPc n).c = s.c := rfl
@[simp] theorem incrementPc_d (n : Word) : (s.incrementPc n).d = s.d := rfl
@[simp] theorem incrementPc_e (n : Word) : (s.incrementPc n).e = s.e := rfl
@[simp] theorem incrementPc_h (n : Word) : (s.incrementPc n).h = s.h := rfl
@[simp] theorem incrementPc_l (n : Word) : (s.incrementPc n).l = s.l := rfl
@[simp] theorem incrementPc_sp (n : Word) : (s.incrementPc n).sp = s.sp := rfl
@[simp] theorem incrementPc_pc (n : Word) : (s.incrementPc n).pc = s.pc + n := rfl
@[simp] theorem incrementPc_mem (n : Word) : (s.incrementPc n).mem = s.mem := rfl
@[simp] theorem readReg8_incrementPc (n : Word) (r : Reg8) : (s.incrementPc n).readReg8 r = s.readReg8 r := by cases r <;> rfl
@[simp] theorem hl_incrementPc (n : Word) : (s.incrementPc n).hl = s.hl := rfl
@[simp] theorem memRead_incrementPc (n : Word) (y : Word) : (s.incrementPc n).memRead y = s.memRead y := rfl
@[simp] theorem readRp_incrementPc (n : Word) (p : Rp) : (s.incrementPc n).readRp p = s.readRp p := by cases p <;> rfl

/-! ### `memWrite` -/

@[simp] theorem memWrite_a (x : Word) (v : Byte) : (s.memWrite x v).a = s.a := rfl
@[simp] theorem memWrite_f (x : Word) (v : Byte) : (s.memWrite x v).f = s.f := rfl
@[simp] theorem memWrite_b (x : Word) (v : Byte) : (s.memWrite x v).b = s.b := rfl
@[simp] theorem memWrite_c (x : Word) (v : Byte) : (s.memWrite x v).c = s.c := rfl
@[simp] theorem memWrite_d (x : Word) (v : Byte) : (s.memWrite x v).d = s.d := rfl
@[simp] theorem memWrite_e (x : Word) (v : Byte) : (s.memWrite x v).e = s.e := rfl
@[simp] theorem memWrite_h (x : Word) (v : Byte) : (s.memWrite x v).h = s.h := rfl
@[simp] theorem memWrite_l (x : Word) (v : Byte) : (s.memWrite x v).l = s.l := rfl
@[simp] theorem memWrite_sp (x : Word) (v : Byte) : (s.memWrite x v).sp = s.sp := rfl
@[simp] theorem memWrite_pc (x : Word) (v : Byte) : (s.memWrite x v).pc = s.pc := rfl
@[simp] theorem memWrite_mem (x : Word) (v : Byte) : (s.memWrite x v).mem = Memory.write s.mem x.toNat v := rfl
@[simp] theorem readReg8_memWrite (x : Word) (v : Byte) (r : Reg8) : (s.memWrite x v).readReg8 r = s.readReg8 r := by cases r <;> rfl
@[simp] theorem hl_memWrite (x : Word) (v : Byte) : (s.memWrite x v).hl = s.hl := rfl
@[simp] theorem readRp_memWrite (x : Word) (v : Byte) (p : Rp) : (s.memWrite x v).readRp p = s.readRp p := by cases p <;> rfl

/-! ### `writeRp` -/

@[simp] theorem writeRp_f (p : Rp) (v : Word) : (s.writeRp p v).f = s.f := by cases p <;> rfl
@[simp] theorem writeRp_a (p : Rp) (v : Word) : (s.writeRp p v).a = s.a := by cases p <;> rfl
@[simp] theorem writeRp_pc (p : Rp) (v : Word) : (s.writeRp p v).pc = s.pc := by cases p <;> rfl
@[simp] theorem writeRp_mem (p : Rp) (v : Word) : (s.writeRp p v).mem = s.mem := by cases p <;> rfl
@[simp] theorem memRead_writeRp (p : Rp) (v : Word) (x : Word) : (s.writeRp p v).memRead x = s.memRead x := by
  cases p <;> rfl

theorem writeRp_bc (v : Word) : s.writeRp .bc v = (s.writeReg8 .b (hiByte v)).writeReg8 .c (loByte v) := rfl
theorem writeRp_de (v : Word) : s.writeRp .de v = (s.writeReg8 .d (hiByte v)).writeReg8 .e (loByte v) := rfl
theorem writeRp_hl (v : Word) : s.writeRp .hl v = (s.writeReg8 .h (hiByte v)).writeReg8 .l (loByte v) := rfl
theorem writeRp_sp (v : Word) : s.writeRp .sp v = s.writeSp v := rfl

/-! ### `writeLoc8` -/

@[simp] theorem writeLoc8_reg (r : Reg8) (v : Byte) : s.writeLoc8 (.reg r) v = s.writeReg8 r v := rfl
@[simp] theorem writeLoc8_atHl (v : Byte) : s.writeLoc8 .atHl v = s.memWrite s.hl v := rfl
@[simp] theorem readLoc8_reg (r : Reg8) : s.readLoc8 (.reg r) = s.readReg8 r := rfl
@[simp] theorem readLoc8_atHl : s.readLoc8 .atHl = s.memRead s.hl := rfl
@[simp] theorem readSrc8_loc (l : Loc8) : s.readSrc8 (.loc l) = s.readLoc8 l := rfl
@[simp] theorem readSrc8_imm (v : Byte) : s.readSrc8 (.imm v) = v := rfl

@[simp] theorem writeLoc8_f (l : Loc8) (v : Byte) : (s.writeLoc8 l v).f = s.f := by cases l <;> simp
@[simp] theorem writeLoc8_sp (l : Loc8) (v : Byte) : (s.writeLoc8 l v).sp = s.sp := by cases l <;> simp
@[simp] theorem writeLoc8_pc (l : Loc8) (v : Byte) : (s.writeLoc8 l v).pc = s.pc := by cases l <;> simp

/-! ### Two states with the same contents -/

/-- A state is its registers, F, SP, PC and memory (10_state.md R20). -/
theorem State.ext_fields {s t : State} (hr : ∀ r, s.readReg8 r = t.readReg8 r) (hf : s.f = t.f) (hsp : s.sp = t.sp)
    (hpc : s.pc = t.pc) (hm : s.mem = t.mem) : s = t := by
  have ha := hr .a; have hb := hr .b; have hc := hr .c; have hd := hr .d; have he := hr .e; have hh := hr .h; have hl := hr .l
  cases s; cases t; simp_all

end Sys2Proof.Machine
end

