-- ==== Sys2Proof/Laws/Alu.lean ====
section
/-!
SUPPORT. The bits of F after the flag setters (10_state.md R27 to R29), bytes and words, and the results of the ALU
routines as numbers (40_alu_routines.md R81 to R86).
-/

namespace Sys2Proof

/-! ### Bytes and words -/

@[simp] theorem hiByte_mkWord (hi lo : Byte) : hiByte (mkWord hi lo) = hi := by
  apply BitVec.eq_of_getLsbD_eq
  intro i hi'
  simp only [hiByte, mkWord, BitVec.getLsbD_extractLsb', BitVec.getLsbD_append, hi', decide_true, Bool.true_and]
  rw [if_neg (by omega), show 8 + i - 8 = i by omega]

@[simp] theorem loByte_mkWord (hi lo : Byte) : loByte (mkWord hi lo) = lo := by
  apply BitVec.eq_of_getLsbD_eq
  intro i hi'
  simp only [loByte, mkWord, BitVec.getLsbD_extractLsb', BitVec.getLsbD_append, hi', decide_true, Bool.true_and]
  rw [if_pos (by omega), Nat.zero_add]

@[simp] theorem mkWord_hiByte_loByte (v : Word) : mkWord (hiByte v) (loByte v) = v := by
  simp only [hiByte, loByte, mkWord]
  ext i hi'
  simp only [BitVec.getElem_append, BitVec.getElem_extractLsb', Nat.zero_add]
  split
  · rfl
  · rw [show 8 + (i - 8) = i by omega]; rfl

theorem mkWord_toNat (hi lo : Byte) : (mkWord hi lo).toNat = hi.toNat * 256 + lo.toNat := by
  simp only [mkWord, BitVec.toNat_append]
  rw [← Nat.shiftLeft_add_eq_or_of_lt lo.isLt, Nat.shiftLeft_eq]

namespace Machine

/-! ### The bits of F -/

/-- The place of a flag in F (10_state.md R27). -/
def Flag.bit : Flag → Nat
  | .z => 7
  | .n => 6
  | .hf => 5
  | .cy => 4

/-- A getter reads its flag's bit. -/
theorem getFlag_eq_bit (f : Byte) (x : Flag) : getFlag f x = f.getLsbD x.bit := by
  cases x <;> revert f <;> decide

/-- A setter writes its flag's bit and no other. -/
theorem putFlag_bit (f : Byte) (x : Flag) (v : Bool) (i : Nat) :
    (putFlag f x v).getLsbD i = if i = x.bit then v else f.getLsbD i := by
  by_cases hi : i < 8
  · interval_cases i <;> cases x <;> cases v <;> simp [putFlag, Flag.mask, Flag.bit]
  · have h8 : 8 ≤ i := by omega
    rw [BitVec.getLsbD_of_ge _ _ h8, BitVec.getLsbD_of_ge _ _ h8, if_neg]
    cases x <;> simp only [Flag.bit] <;> omega

theorem putFlag?_bit (f : Byte) (x : Flag) (v : Option Bool) (i : Nat) :
    (putFlag? f x v).getLsbD i = if i = x.bit then v.getD (f.getLsbD i) else f.getLsbD i := by
  cases v with
  | none => simp [putFlag?]
  | some v => simp [putFlag?, putFlag_bit]

/-- Each bit of F after the written flags are set: 7, 6, 5, 4 are Z, N, Hf, Cy where written, the rest stays. -/
theorem applyFlags_bit (f : Byte) (o : FlagOutcome) (i : Nat) :
    (applyFlags f o).getLsbD i =
      if i = 7 then o.z.getD (f.getLsbD 7) else if i = 6 then o.n.getD (f.getLsbD 6)
      else if i = 5 then o.hf.getD (f.getLsbD 5) else if i = 4 then o.cy.getD (f.getLsbD 4) else f.getLsbD i := by
  simp only [applyFlags, putFlag?_bit, Flag.bit]
  split_ifs <;> simp_all

theorem applyFlags_z (f : Byte) (o : FlagOutcome) : (applyFlags f o).getLsbD 7 = o.z.getD (f.getLsbD 7) := by
  rw [applyFlags_bit]; rfl

theorem applyFlags_n (f : Byte) (o : FlagOutcome) : (applyFlags f o).getLsbD 6 = o.n.getD (f.getLsbD 6) := by
  rw [applyFlags_bit]; rfl

theorem applyFlags_hf (f : Byte) (o : FlagOutcome) : (applyFlags f o).getLsbD 5 = o.hf.getD (f.getLsbD 5) := by
  rw [applyFlags_bit]; rfl

theorem applyFlags_cy (f : Byte) (o : FlagOutcome) : (applyFlags f o).getLsbD 4 = o.cy.getD (f.getLsbD 4) := by
  rw [applyFlags_bit]; rfl

/-- The flag setters leave the low nibble of F alone (10_state.md R28). -/
theorem applyFlags_low (f : Byte) (o : FlagOutcome) : applyFlags f o &&& 0x0F#8 = f &&& 0x0F#8 := by
  apply BitVec.eq_of_getLsbD_eq
  intro i hi
  simp only [BitVec.getLsbD_and, applyFlags_bit]
  interval_cases i <;> simp

theorem putFlag_low (f : Byte) (x : Flag) (v : Bool) : putFlag f x v &&& 0x0F#8 = f &&& 0x0F#8 := by
  cases x <;> cases v <;> revert f <;> decide

theorem flag_cy_eq_bit (s : State) : s.flag .cy = s.f.getLsbD 4 := getFlag_eq_bit s.f .cy

/-! ### The results of the routines -/

theorem add8_toNat (a v : Byte) (c : Bool) : (add8 a v c).result.toNat = (a.toNat + v.toNat + c.toNat) % 256 := by
  simp [add8]

theorem sub8_toNat (a v : Byte) (c : Bool) :
    (sub8 a v c).result.toNat = (a.toNat + 256 - (v.toNat + c.toNat)) % 256 := by
  have ha := a.isLt
  have hv := v.isLt
  have hc := c.toNat_le
  simp only [sub8, BitVec.toNat_ofInt]
  omega

theorem add16_toNat (hl v : Word) : (add16 hl v).result.toNat = (hl.toNat + v.toNat) % 65536 := by
  simp [add16]

theorem inc8_toNat (x : Byte) : (inc8 x).result.toNat = (x.toNat + 1) % 256 := by
  simp [inc8]

theorem dec8_toNat (x : Byte) : (dec8 x).result.toNat = (x.toNat + 255) % 256 := by
  have hx := x.isLt
  simp only [dec8, BitVec.toNat_ofInt]
  omega

theorem rlc8_toNat (a : Byte) : (rlc8 a).result.toNat = a.toNat * 2 % 256 + a.toNat / 128 := by
  revert a; decide

/-- A byte is zero when its number is. -/
theorem beq_zero_eq (x : Byte) : (x == 0#8) = decide (x.toNat = 0) := by
  revert x; decide

end Machine

end Sys2Proof
end

