-- ==== Sys2Proof/Laws/Decode.lean ====
section
/-!
SUPPORT. Which bytes the decoder rejects, and that this is decided by the first byte alone (30_encoding.md R70, R73).
-/

namespace Sys2Proof

/-- Whether a first byte has an operation does not depend on the bytes after it. -/
theorem decodeFirst_isSome (b0 b1 b2 : Byte) : (decodeFirst b0 b1 b2).isSome = (decodeFirst b0 0#8 0#8).isSome := by
  unfold decodeFirst
  split
  · split <;> rfl
  · rfl
  · rfl
  · split <;> rfl

theorem decode_esc (b1 b2 : Byte) : decode Config.esc b1 b2 = .ok (.prefixCb b1) := if_pos rfl

theorem decode_eq_ok {b0 b1 b2 : Byte} (i : Instr) (h : b0 ≠ Config.esc) :
    decode b0 b1 b2 = .ok i ↔ decodeFirst b0 b1 b2 = some i := by
  unfold decode
  rw [if_neg h]
  split
  · next j hj => simp [hj]
  · next hj => simp [hj]

/-- The decoder rejects exactly the first bytes without an operation, by the name of the byte. -/
theorem decode_eq_error (b0 b1 b2 : Byte) (x : DecodeError) :
    decode b0 b1 b2 = .error x ↔
      b0 ≠ Config.esc ∧ (decodeFirst b0 0#8 0#8).isSome = false ∧ x = .unimplemented b0 := by
  rw [← decodeFirst_isSome b0 b1 b2]
  unfold decode
  split
  · next h => simp [h]
  · next h =>
    split
    · next hj => simp [hj]
    · next hj => simp [hj, h, eq_comm]

/-- An accepted first byte other than the escape byte gives an instruction with an operation. -/
theorem decodeFirst_isImplemented {b0 b1 b2 : Byte} {i : Instr} (h : decodeFirst b0 b1 b2 = some i) :
    i.isImplemented = true := by
  cases i with
  | prefixCb v =>
    exfalso
    revert h
    unfold decodeFirst
    split
    · split
      · split <;> simp
      · split
        · cases Rp.ofField (opP b0) <;> simp [Instr.addHl]
        · cases Rp.ofField (opP b0) <;> simp [Instr.ldD16]
      · rcases Loc8.ofField (opY b0) with r | _
        · cases r <;> simp [Instr.inc8]
        · simp [Instr.inc8]
      · rcases Loc8.ofField (opY b0) with r | _
        · cases r <;> simp [Instr.dec8]
        · simp [Instr.dec8]
      · rcases Loc8.ofField (opY b0) with r | _
        · cases r <;> simp [Instr.ldD8]
        · simp [Instr.ldD8]
      · split <;> simp
      · simp
    · rcases Loc8.ofField (opY b0) with r | _ <;> rcases Loc8.ofField (opZ b0) with q | _
      · cases r <;> cases q <;> simp [Instr.ld8, Instr.ldRR]
      · cases r <;> simp [Instr.ld8, Instr.ldRAtHl]
      · cases q <;> simp [Instr.ld8, Instr.ldAtHlR]
      · simp [Instr.ld8]
    · split
      · simp
      · rcases Loc8.ofField (opZ b0) with r | _ <;> cases AluOp.ofField (opOO b0)
        any_goals cases r
        all_goals simp [Instr.alu]
    · split
      · cases AluOp.ofField (opOO b0) <;> simp [Instr.alu]
      · simp
  | _ => rfl

end Sys2Proof
end

