-- ==== Sys2Proof/Laws/Memory.lean ====
section
/-!
SUPPORT. The laws of memory (20_memory.md R42, R43): what a read gives after a write, and that the canonical form is
kept by every operation and determines the memory.
-/

namespace Sys2Proof.Machine

/-! ### Read after write -/

theorem Memory.read_erase (m : Memory) (a x : Nat) :
    Memory.read (Memory.erase m a) x = if x = a then Memory.unlisted else Memory.read m x := by
  induction m with
  | nil => simp [Memory.erase, Memory.read]
  | cons cell m ih =>
    obtain ⟨k, w⟩ := cell
    unfold Memory.erase at ih ⊢
    by_cases hk : k = a
    · subst hk
      simp only [List.filter_cons, bne_self_eq_false, Bool.false_eq_true, if_false, ih, Memory.read]
      by_cases hx : x = k <;> simp [hx]
    · simp only [List.filter_cons, bne_iff_ne, ne_eq, hk, not_false_eq_true, if_true, Memory.read, ih]
      by_cases hx : x = k
      · simp [hx, hk]
      · simp [hx]

theorem Memory.read_insert (m : Memory) (a : Nat) (v : Byte) (x : Nat) (h : Memory.read m a = Memory.unlisted)
    (hm : ∀ cell ∈ m, cell.1 ≠ a) :
    Memory.read (Memory.insert m a v) x = if x = a then v else Memory.read m x := by
  induction m with
  | nil => simp [Memory.insert, Memory.read]
  | cons cell m ih =>
    obtain ⟨k, w⟩ := cell
    have hk : k ≠ a := hm (k, w) (by simp)
    have hrest : ∀ cell ∈ m, cell.1 ≠ a := fun c hc => hm c (by simp [hc])
    have hread : Memory.read m a = Memory.unlisted := by simpa [Memory.read, hk.symm] using h
    unfold Memory.insert
    split
    · simp [Memory.read]
    · simp only [Memory.read, ih hread hrest]
      by_cases hx : x = k
      · simp [hx, hk]
      · simp [hx]

/-- A write changes the byte at its address and no other. -/
theorem Memory.read_write (m : Memory) (a : Nat) (v : Byte) (x : Nat) :
    Memory.read (Memory.write m a v) x = if x = a then v else Memory.read m x := by
  unfold Memory.write
  split
  · next h => rw [Memory.read_erase, h]
  · rw [Memory.read_insert, Memory.read_erase]
    · by_cases hx : x = a <;> simp [hx]
    · simp [Memory.read_erase]
    · intro cell hc
      simp only [Memory.erase, List.mem_filter, bne_iff_ne, ne_eq] at hc
      exact hc.2

/-! ### The canonical form -/

theorem Memory.wfFrom_cons {lo k : Nat} {v : Byte} {m : Memory} :
    Memory.wfFrom lo ((k, v) :: m) = true ↔
      lo ≤ k ∧ k < 65536 ∧ v ≠ Memory.unlisted ∧ Memory.wfFrom (k + 1) m = true := by
  simp only [Memory.wfFrom, Bool.and_eq_true, decide_eq_true_eq, bne_iff_ne, ne_eq, and_assoc]
  rfl

theorem Memory.wfFrom_mono {m : Memory} {lo lo' : Nat} (hle : lo' ≤ lo) (h : Memory.wfFrom lo m = true) :
    Memory.wfFrom lo' m = true := by
  cases m with
  | nil => rfl
  | cons cell m =>
    rw [Memory.wfFrom_cons] at h ⊢
    exact ⟨by omega, h.2⟩

theorem Memory.wfFrom_erase {m : Memory} {lo : Nat} (a : Nat) (h : Memory.wfFrom lo m = true) :
    Memory.wfFrom lo (Memory.erase m a) = true := by
  induction m generalizing lo with
  | nil => rfl
  | cons cell m ih =>
    obtain ⟨k, w⟩ := cell
    obtain ⟨hlo, hk, hw, hm⟩ := Memory.wfFrom_cons.1 h
    have hrest := ih hm
    unfold Memory.erase at hrest ⊢
    by_cases hka : k = a
    · subst hka
      simpa using Memory.wfFrom_mono (by omega) hrest
    · rw [List.filter_cons_of_pos (by simpa using hka)]
      exact Memory.wfFrom_cons.2 ⟨hlo, hk, hw, hrest⟩

theorem Memory.wfFrom_insert {m : Memory} {lo a : Nat} {v : Byte} (hlo : lo ≤ a) (ha : a < 65536)
    (hv : v ≠ Memory.unlisted) (hm : ∀ cell ∈ m, cell.1 ≠ a) (h : Memory.wfFrom lo m = true) :
    Memory.wfFrom lo (Memory.insert m a v) = true := by
  induction m generalizing lo with
  | nil => exact Memory.wfFrom_cons.2 ⟨hlo, ha, hv, rfl⟩
  | cons cell m ih =>
    obtain ⟨k, w⟩ := cell
    have hka : k ≠ a := hm (k, w) (by simp)
    obtain ⟨hlk, hk, hw, hrest⟩ := Memory.wfFrom_cons.1 h
    unfold Memory.insert
    split
    · next hlt => exact Memory.wfFrom_cons.2 ⟨hlo, ha, hv, Memory.wfFrom_cons.2 ⟨by omega, hk, hw, hrest⟩⟩
    · next hlt =>
      exact Memory.wfFrom_cons.2 ⟨hlk, hk, hw, ih (by omega) (fun c hc => hm c (by simp [hc])) hrest⟩

/-- Every write inside the address space keeps the canonical form. -/
theorem Memory.wf_write {m : Memory} {a : Nat} (v : Byte) (ha : a < 65536) (h : Memory.wf m = true) :
    Memory.wf (Memory.write m a v) = true := by
  unfold Memory.write
  split
  · exact Memory.wfFrom_erase a h
  · next hv =>
    refine Memory.wfFrom_insert (Nat.zero_le a) ha hv (fun cell hc => ?_) (Memory.wfFrom_erase a h)
    simp only [Memory.erase, List.mem_filter, bne_iff_ne, ne_eq] at hc
    exact hc.2

theorem Memory.wf_reset : Memory.wf State.reset.mem = true := rfl

/-- An address below the first entry reads as unlisted. -/
theorem Memory.read_below {m : Memory} {lo x : Nat} (h : Memory.wfFrom lo m = true) (hx : x < lo) :
    Memory.read m x = Memory.unlisted := by
  induction m generalizing lo with
  | nil => rfl
  | cons cell m ih =>
    obtain ⟨k, w⟩ := cell
    obtain ⟨hlo, -, -, hrest⟩ := Memory.wfFrom_cons.1 h
    rw [Memory.read, if_neg (by omega)]
    exact ih hrest (by omega)

/-- An address outside the address space reads as unlisted. -/
theorem Memory.read_above {m : Memory} {lo x : Nat} (h : Memory.wfFrom lo m = true) (hx : 65536 ≤ x) :
    Memory.read m x = Memory.unlisted := by
  induction m generalizing lo with
  | nil => rfl
  | cons cell m ih =>
    obtain ⟨k, w⟩ := cell
    obtain ⟨-, hk, -, hrest⟩ := Memory.wfFrom_cons.1 h
    rw [Memory.read, if_neg (by omega)]
    exact ih hrest

/-! ### The machine's memory access -/

/-- `MemRead` after `MemWrite` (20_memory.md R42, R43). -/
@[simp] theorem memRead_memWrite (s : State) (x : Word) (v : Byte) (y : Word) :
    (s.memWrite x v).memRead y = if y = x then v else s.memRead y := by
  simp only [State.memRead, memWrite_mem, Memory.read_write, BitVec.toNat_inj]

/-- `MemWrite` keeps the canonical form. -/
theorem wf_memWrite {s : State} (x : Word) (v : Byte) (h : Memory.wf s.mem = true) :
    Memory.wf (s.memWrite x v).mem = true :=
  Memory.wf_write v x.isLt h

theorem wf_writeLoc8 {s : State} (l : Loc8) (v : Byte) (h : Memory.wf s.mem = true) :
    Memory.wf (s.writeLoc8 l v).mem = true := by
  cases l with
  | reg r => simpa using h
  | atHl => exact wf_memWrite _ _ h

theorem wf_storeBytes {s : State} (x : Word) (w n : Nat) (h : Memory.wf s.mem = true) :
    Memory.wf (s.storeBytes x w n).mem = true := by
  induction n generalizing s x w with
  | zero => exact h
  | succ n ih => exact ih _ _ (wf_memWrite _ _ h)

theorem wf_loadImage {s : State} (image : List (Word × Byte)) (h : Memory.wf s.mem = true) :
    Memory.wf (s.loadImage image).mem = true := by
  induction image generalizing s with
  | nil => exact h
  | cons cell rest ih => exact ih (wf_memWrite _ _ h)

end Sys2Proof.Machine
end

