-- ==== Sys2Proof/Laws/Exec.lean ====
section
/-!
SUPPORT. What the shared operations answer, which operation `exec` runs for each operand form, and that every
instruction is one of those forms.
-/

namespace Sys2Proof.Machine

/-! ### The shared operations always answer a next state -/

theorem complete_eq (s : State) (n : Word) : s.complete n = .next (s.incrementPc n) := rfl

theorem ld8_eq (dst : Loc8) (src : Src8) (s : State) :
    ld8 dst src s = .next ((s.writeLoc8 dst (s.readSrc8 src)).incrementPc (srcLength src)) := rfl

theorem ld16_eq (p : Rp) (v : Word) (s : State) : ld16 p v s = .next ((s.writeRp p v).incrementPc 3#16) := rfl

theorem alu8_eq (op : AluOp) (src : Src8) (s : State) :
    alu8 op src s = .next (((s.writeReg8 .a (aluRoutine op s.a (s.readSrc8 src) (s.flag .cy)).result).writeFlags
      (aluRoutine op s.a (s.readSrc8 src) (s.flag .cy)).flags).incrementPc (srcLength src)) := rfl

theorem update8_eq (routine : Byte → AluOut Byte) (l : Loc8) (s : State) :
    update8 routine l s = .next (((s.writeFlags (routine (s.readLoc8 l)).flags).writeLoc8 l
      (routine (s.readLoc8 l)).result).incrementPc 1#16) := rfl

theorem addToHl_eq (p : Rp) (s : State) :
    addToHl p s = .next (((s.writeRp .hl (add16 s.hl (s.readRp p)).result).writeFlags
      (add16 s.hl (s.readRp p)).flags).incrementPc 1#16) := rfl

theorem rotateA_eq (s : State) :
    rotateA s = .next (((s.writeReg8 .a (rlc8 s.a).result).writeFlags (rlc8 s.a).flags).incrementPc 1#16) := rfl

theorem raiseUnimplemented_eq (s : State) (opcode : Byte) (pfx : Bool) :
    s.raiseUnimplemented opcode pfx = .fault (.unimplementedOpcode opcode pfx s.pc) := rfl

/-! ### `exec` by operand form -/

theorem exec_nop (s : State) : exec .nop s = s.complete 1#16 := rfl

theorem exec_prefixCb (v : Byte) (s : State) : exec (.prefixCb v) s = s.raiseUnimplemented v true := rfl

theorem exec_rlca (s : State) : exec .rlca s = rotateA s := rfl

theorem exec_ldRR (dst src : Reg8) (s : State) : exec (.ldRR dst src) s = ld8 (.reg dst) (.loc (.reg src)) s := by
  cases dst <;> cases src <;> rfl

theorem exec_ldRAtHl (dst : Reg8) (s : State) : exec (.ldRAtHl dst) s = ld8 (.reg dst) (.loc .atHl) s := by
  cases dst <;> rfl

theorem exec_ldAtHlR (src : Reg8) (s : State) : exec (.ldAtHlR src) s = ld8 .atHl (.loc (.reg src)) s := by
  cases src <;> rfl

theorem exec_ldD8 (dst : Loc8) (v : Byte) (s : State) : exec (.ldD8 dst v) s = ld8 dst (.imm v) s := by
  rcases dst with r | _
  · cases r <;> rfl
  · rfl

theorem exec_ldD16 (p : Rp) (v : Word) (s : State) : exec (.ldD16 p v) s = ld16 p v s := by
  cases p <;> rfl

theorem exec_addHl (p : Rp) (s : State) : exec (.addHl p) s = addToHl p s := by
  cases p <;> rfl

theorem exec_inc8 (l : Loc8) (s : State) : exec (.inc8 l) s = update8 inc8 l s := by
  rcases l with r | _
  · cases r <;> rfl
  · rfl

theorem exec_dec8 (l : Loc8) (s : State) : exec (.dec8 l) s = update8 dec8 l s := by
  rcases l with r | _
  · cases r <;> rfl
  · rfl

theorem exec_alu (op : AluOp) (src : Src8) (s : State) : exec (.alu op src) s = alu8 op src s := by
  rcases src with (r | _) | v
  · cases op <;> cases r <;> rfl
  · cases op <;> rfl
  · cases op <;> rfl

end Sys2Proof.Machine

namespace Sys2Proof

/-- The operand forms that cover the opcode table (30_encoding.md R64). -/
inductive Instr.Form : Instr → Prop where
  | nop : Form .nop
  | rlca : Form .rlca
  | prefixCb (v : Byte) : Form (.prefixCb v)
  | ldRR (dst src : Reg8) : Form (.ldRR dst src)
  | ldRAtHl (dst : Reg8) : Form (.ldRAtHl dst)
  | ldAtHlR (src : Reg8) : Form (.ldAtHlR src)
  | ldD8 (dst : Loc8) (v : Byte) : Form (.ldD8 dst v)
  | ldD16 (p : Rp) (v : Word) : Form (.ldD16 p v)
  | addHl (p : Rp) : Form (.addHl p)
  | inc8 (l : Loc8) : Form (.inc8 l)
  | dec8 (l : Loc8) : Form (.dec8 l)
  | alu (op : AluOp) (src : Src8) : Form (.alu op src)

/-- Every instruction is one of the forms: a case split over the forms is one over the whole table. -/
theorem Instr.form (i : Instr) : i.Form := by
  cases i
  case nop => exact .nop
  case ldBcD16 d16 => exact .ldD16 .bc d16
  case incB => exact .inc8 (.reg .b)
  case decB => exact .dec8 (.reg .b)
  case ldBD8 d8 => exact .ldD8 (.reg .b) d8
  case rlca => exact .rlca
  case addHlBc => exact .addHl .bc
  case incC => exact .inc8 (.reg .c)
  case decC => exact .dec8 (.reg .c)
  case ldCD8 d8 => exact .ldD8 (.reg .c) d8
  case ldDeD16 d16 => exact .ldD16 .de d16
  case incD => exact .inc8 (.reg .d)
  case decD => exact .dec8 (.reg .d)
  case ldDD8 d8 => exact .ldD8 (.reg .d) d8
  case addHlDe => exact .addHl .de
  case incE => exact .inc8 (.reg .e)
  case decE => exact .dec8 (.reg .e)
  case ldED8 d8 => exact .ldD8 (.reg .e) d8
  case ldHlD16 d16 => exact .ldD16 .hl d16
  case incH => exact .inc8 (.reg .h)
  case decH => exact .dec8 (.reg .h)
  case ldHD8 d8 => exact .ldD8 (.reg .h) d8
  case addHlHl => exact .addHl .hl
  case incL => exact .inc8 (.reg .l)
  case decL => exact .dec8 (.reg .l)
  case ldLD8 d8 => exact .ldD8 (.reg .l) d8
  case ldSpD16 d16 => exact .ldD16 .sp d16
  case incAtHl => exact .inc8 .atHl
  case decAtHl => exact .dec8 .atHl
  case ldAtHlD8 d8 => exact .ldD8 .atHl d8
  case addHlSp => exact .addHl .sp
  case incA => exact .inc8 (.reg .a)
  case decA => exact .dec8 (.reg .a)
  case ldAD8 d8 => exact .ldD8 (.reg .a) d8
  case ldBB => exact .ldRR .b .b
  case ldBC => exact .ldRR .b .c
  case ldBD => exact .ldRR .b .d
  case ldBE => exact .ldRR .b .e
  case ldBH => exact .ldRR .b .h
  case ldBL => exact .ldRR .b .l
  case ldBAtHl => exact .ldRAtHl .b
  case ldBA => exact .ldRR .b .a
  case ldCB => exact .ldRR .c .b
  case ldCC => exact .ldRR .c .c
  case ldCD => exact .ldRR .c .d
  case ldCE => exact .ldRR .c .e
  case ldCH => exact .ldRR .c .h
  case ldCL => exact .ldRR .c .l
  case ldCAtHl => exact .ldRAtHl .c
  case ldCA => exact .ldRR .c .a
  case ldDB => exact .ldRR .d .b
  case ldDC => exact .ldRR .d .c
  case ldDD => exact .ldRR .d .d
  case ldDE => exact .ldRR .d .e
  case ldDH => exact .ldRR .d .h
  case ldDL => exact .ldRR .d .l
  case ldDAtHl => exact .ldRAtHl .d
  case ldDA => exact .ldRR .d .a
  case ldEB => exact .ldRR .e .b
  case ldEC => exact .ldRR .e .c
  case ldED => exact .ldRR .e .d
  case ldEE => exact .ldRR .e .e
  case ldEH => exact .ldRR .e .h
  case ldEL => exact .ldRR .e .l
  case ldEAtHl => exact .ldRAtHl .e
  case ldEA => exact .ldRR .e .a
  case ldHB => exact .ldRR .h .b
  case ldHC => exact .ldRR .h .c
  case ldHD => exact .ldRR .h .d
  case ldHE => exact .ldRR .h .e
  case ldHH => exact .ldRR .h .h
  case ldHL => exact .ldRR .h .l
  case ldHAtHl => exact .ldRAtHl .h
  case ldHA => exact .ldRR .h .a
  case ldLB => exact .ldRR .l .b
  case ldLC => exact .ldRR .l .c
  case ldLD => exact .ldRR .l .d
  case ldLE => exact .ldRR .l .e
  case ldLH => exact .ldRR .l .h
  case ldLL => exact .ldRR .l .l
  case ldLAtHl => exact .ldRAtHl .l
  case ldLA => exact .ldRR .l .a
  case ldAtHlB => exact .ldAtHlR .b
  case ldAtHlC => exact .ldAtHlR .c
  case ldAtHlD => exact .ldAtHlR .d
  case ldAtHlE => exact .ldAtHlR .e
  case ldAtHlH => exact .ldAtHlR .h
  case ldAtHlL => exact .ldAtHlR .l
  case ldAtHlA => exact .ldAtHlR .a
  case ldAB => exact .ldRR .a .b
  case ldAC => exact .ldRR .a .c
  case ldAD => exact .ldRR .a .d
  case ldAE => exact .ldRR .a .e
  case ldAH => exact .ldRR .a .h
  case ldAL => exact .ldRR .a .l
  case ldAAtHl => exact .ldRAtHl .a
  case ldAA => exact .ldRR .a .a
  case addAB => exact .alu .add (.loc (.reg .b))
  case addAC => exact .alu .add (.loc (.reg .c))
  case addAD => exact .alu .add (.loc (.reg .d))
  case addAE => exact .alu .add (.loc (.reg .e))
  case addAH => exact .alu .add (.loc (.reg .h))
  case addAL => exact .alu .add (.loc (.reg .l))
  case addAAtHl => exact .alu .add (.loc .atHl)
  case addAA => exact .alu .add (.loc (.reg .a))
  case adcAB => exact .alu .adc (.loc (.reg .b))
  case adcAC => exact .alu .adc (.loc (.reg .c))
  case adcAD => exact .alu .adc (.loc (.reg .d))
  case adcAE => exact .alu .adc (.loc (.reg .e))
  case adcAH => exact .alu .adc (.loc (.reg .h))
  case adcAL => exact .alu .adc (.loc (.reg .l))
  case adcAAtHl => exact .alu .adc (.loc .atHl)
  case adcAA => exact .alu .adc (.loc (.reg .a))
  case subB => exact .alu .sub (.loc (.reg .b))
  case subC => exact .alu .sub (.loc (.reg .c))
  case subD => exact .alu .sub (.loc (.reg .d))
  case subE => exact .alu .sub (.loc (.reg .e))
  case subH => exact .alu .sub (.loc (.reg .h))
  case subL => exact .alu .sub (.loc (.reg .l))
  case subAtHl => exact .alu .sub (.loc .atHl)
  case subA => exact .alu .sub (.loc (.reg .a))
  case sbcAB => exact .alu .sbc (.loc (.reg .b))
  case sbcAC => exact .alu .sbc (.loc (.reg .c))
  case sbcAD => exact .alu .sbc (.loc (.reg .d))
  case sbcAE => exact .alu .sbc (.loc (.reg .e))
  case sbcAH => exact .alu .sbc (.loc (.reg .h))
  case sbcAL => exact .alu .sbc (.loc (.reg .l))
  case sbcAAtHl => exact .alu .sbc (.loc .atHl)
  case sbcAA => exact .alu .sbc (.loc (.reg .a))
  case addAD8 d8 => exact .alu .add (.imm d8)
  case prefixCb opcode2 => exact .prefixCb opcode2
  case adcAD8 d8 => exact .alu .adc (.imm d8)
  case subD8 d8 => exact .alu .sub (.imm d8)
  case sbcAD8 d8 => exact .alu .sbc (.imm d8)

end Sys2Proof
end

