-- ==== Sys2Proof/Laws/Fetch.lean ====
section
/-!
SUPPORT. The fetch: which bytes it reads, and that a word placed by `State.withFetchWord` is what it reads next.
-/

namespace Sys2Proof.Machine

/-- The fetch decodes the bytes at PC, PC + 1 and PC + 2, modulo 65536. -/
theorem fetchInstr_eq (s : State) :
    s.fetchInstr = decode (s.memRead s.pc) (s.memRead (s.pc + 1#16)) (s.memRead (s.pc + 2#16)) := by
  simp [State.fetchInstr, State.fetchByte]

@[simp] theorem withFetchWord_pc (s : State) (nbits w : Nat) : (s.withFetchWord nbits w).pc = s.pc := rfl

theorem byteOfNat_zero (v : Nat) : byteOfNat v 0 = BitVec.ofNat 8 v := by simp [byteOfNat]

theorem byteOfNat_succ (v k : Nat) : byteOfNat v (k + 1) = byteOfNat (v / 256) k := by
  simp only [byteOfNat, Nat.div_div_eq_div_mul]
  congr 2
  rw [show 8 * (k + 1) = 8 + 8 * k by omega, Nat.pow_add]

/-- The three bytes at PC after a word is placed there are the word's, whatever the state. -/
theorem fetchInstr_withFetchWord (s : State) (nbits w : Nat) :
    (s.withFetchWord nbits w).fetchInstr =
      decode (byteOfNat (w % 2 ^ nbits) 0) (byteOfNat (w % 2 ^ nbits) 1) (byteOfNat (w % 2 ^ nbits) 2) := by
  have h01 : s.pc ≠ s.pc + 1#16 := by bv_omega
  have h02 : s.pc ≠ s.pc + 2#16 := by bv_omega
  have h12 : s.pc + 1#16 ≠ s.pc + 2#16 := by bv_omega
  have h2 : s.pc + 1#16 + 1#16 = s.pc + 2#16 := by bv_omega
  rw [fetchInstr_eq, withFetchWord_pc]
  simp only [State.withFetchWord, State.storeBytes, memRead_memWrite, h2, h01, h02, h12, h12.symm, if_true, if_false,
    byteOfNat_succ]

/-- The decoder's answer on a table word is what the next fetch gives after the word is placed. -/
theorem decodeTableWord_eq_fetch (s : State) (nbits w : Nat) :
    decodeTableWord nbits w = (s.withFetchWord nbits w).fetchInstr.toOption := by
  rw [fetchInstr_withFetchWord]; rfl

end Sys2Proof.Machine
end

