-- ==== Sys2Proof/Laws/PerInstr.lean ====
section
/-!
SUPPORT. Statements about every instruction as syntax, one lemma per constructor.
-/

namespace Sys2Proof.Laws

/-- The bytes of an instruction are as many as its first byte tells the decoder (30_encoding.md R60, R70). -/
def EncodeLength.Statement (i : Instr) : Prop :=
  (encode i).head?.bind opcodeLength = some (encode i).length

theorem EncodeLength.nop : EncodeLength.Statement .nop := rfl
theorem EncodeLength.ldBcD16 (d16 : Word) : EncodeLength.Statement (.ldBcD16 d16) := rfl
theorem EncodeLength.incB : EncodeLength.Statement .incB := rfl
theorem EncodeLength.decB : EncodeLength.Statement .decB := rfl
theorem EncodeLength.ldBD8 (d8 : Byte) : EncodeLength.Statement (.ldBD8 d8) := rfl
theorem EncodeLength.rlca : EncodeLength.Statement .rlca := rfl
theorem EncodeLength.addHlBc : EncodeLength.Statement .addHlBc := rfl
theorem EncodeLength.incC : EncodeLength.Statement .incC := rfl
theorem EncodeLength.decC : EncodeLength.Statement .decC := rfl
theorem EncodeLength.ldCD8 (d8 : Byte) : EncodeLength.Statement (.ldCD8 d8) := rfl
theorem EncodeLength.ldDeD16 (d16 : Word) : EncodeLength.Statement (.ldDeD16 d16) := rfl
theorem EncodeLength.incD : EncodeLength.Statement .incD := rfl
theorem EncodeLength.decD : EncodeLength.Statement .decD := rfl
theorem EncodeLength.ldDD8 (d8 : Byte) : EncodeLength.Statement (.ldDD8 d8) := rfl
theorem EncodeLength.addHlDe : EncodeLength.Statement .addHlDe := rfl
theorem EncodeLength.incE : EncodeLength.Statement .incE := rfl
theorem EncodeLength.decE : EncodeLength.Statement .decE := rfl
theorem EncodeLength.ldED8 (d8 : Byte) : EncodeLength.Statement (.ldED8 d8) := rfl
theorem EncodeLength.ldHlD16 (d16 : Word) : EncodeLength.Statement (.ldHlD16 d16) := rfl
theorem EncodeLength.incH : EncodeLength.Statement .incH := rfl
theorem EncodeLength.decH : EncodeLength.Statement .decH := rfl
theorem EncodeLength.ldHD8 (d8 : Byte) : EncodeLength.Statement (.ldHD8 d8) := rfl
theorem EncodeLength.addHlHl : EncodeLength.Statement .addHlHl := rfl
theorem EncodeLength.incL : EncodeLength.Statement .incL := rfl
theorem EncodeLength.decL : EncodeLength.Statement .decL := rfl
theorem EncodeLength.ldLD8 (d8 : Byte) : EncodeLength.Statement (.ldLD8 d8) := rfl
theorem EncodeLength.ldSpD16 (d16 : Word) : EncodeLength.Statement (.ldSpD16 d16) := rfl
theorem EncodeLength.incAtHl : EncodeLength.Statement .incAtHl := rfl
theorem EncodeLength.decAtHl : EncodeLength.Statement .decAtHl := rfl
theorem EncodeLength.ldAtHlD8 (d8 : Byte) : EncodeLength.Statement (.ldAtHlD8 d8) := rfl
theorem EncodeLength.addHlSp : EncodeLength.Statement .addHlSp := rfl
theorem EncodeLength.incA : EncodeLength.Statement .incA := rfl
theorem EncodeLength.decA : EncodeLength.Statement .decA := rfl
theorem EncodeLength.ldAD8 (d8 : Byte) : EncodeLength.Statement (.ldAD8 d8) := rfl
theorem EncodeLength.ldBB : EncodeLength.Statement .ldBB := rfl
theorem EncodeLength.ldBC : EncodeLength.Statement .ldBC := rfl
theorem EncodeLength.ldBD : EncodeLength.Statement .ldBD := rfl
theorem EncodeLength.ldBE : EncodeLength.Statement .ldBE := rfl
theorem EncodeLength.ldBH : EncodeLength.Statement .ldBH := rfl
theorem EncodeLength.ldBL : EncodeLength.Statement .ldBL := rfl
theorem EncodeLength.ldBAtHl : EncodeLength.Statement .ldBAtHl := rfl
theorem EncodeLength.ldBA : EncodeLength.Statement .ldBA := rfl
theorem EncodeLength.ldCB : EncodeLength.Statement .ldCB := rfl
theorem EncodeLength.ldCC : EncodeLength.Statement .ldCC := rfl
theorem EncodeLength.ldCD : EncodeLength.Statement .ldCD := rfl
theorem EncodeLength.ldCE : EncodeLength.Statement .ldCE := rfl
theorem EncodeLength.ldCH : EncodeLength.Statement .ldCH := rfl
theorem EncodeLength.ldCL : EncodeLength.Statement .ldCL := rfl
theorem EncodeLength.ldCAtHl : EncodeLength.Statement .ldCAtHl := rfl
theorem EncodeLength.ldCA : EncodeLength.Statement .ldCA := rfl
theorem EncodeLength.ldDB : EncodeLength.Statement .ldDB := rfl
theorem EncodeLength.ldDC : EncodeLength.Statement .ldDC := rfl
theorem EncodeLength.ldDD : EncodeLength.Statement .ldDD := rfl
theorem EncodeLength.ldDE : EncodeLength.Statement .ldDE := rfl
theorem EncodeLength.ldDH : EncodeLength.Statement .ldDH := rfl
theorem EncodeLength.ldDL : EncodeLength.Statement .ldDL := rfl
theorem EncodeLength.ldDAtHl : EncodeLength.Statement .ldDAtHl := rfl
theorem EncodeLength.ldDA : EncodeLength.Statement .ldDA := rfl
theorem EncodeLength.ldEB : EncodeLength.Statement .ldEB := rfl
theorem EncodeLength.ldEC : EncodeLength.Statement .ldEC := rfl
theorem EncodeLength.ldED : EncodeLength.Statement .ldED := rfl
theorem EncodeLength.ldEE : EncodeLength.Statement .ldEE := rfl
theorem EncodeLength.ldEH : EncodeLength.Statement .ldEH := rfl
theorem EncodeLength.ldEL : EncodeLength.Statement .ldEL := rfl
theorem EncodeLength.ldEAtHl : EncodeLength.Statement .ldEAtHl := rfl
theorem EncodeLength.ldEA : EncodeLength.Statement .ldEA := rfl
theorem EncodeLength.ldHB : EncodeLength.Statement .ldHB := rfl
theorem EncodeLength.ldHC : EncodeLength.Statement .ldHC := rfl
theorem EncodeLength.ldHD : EncodeLength.Statement .ldHD := rfl
theorem EncodeLength.ldHE : EncodeLength.Statement .ldHE := rfl
theorem EncodeLength.ldHH : EncodeLength.Statement .ldHH := rfl
theorem EncodeLength.ldHL : EncodeLength.Statement .ldHL := rfl
theorem EncodeLength.ldHAtHl : EncodeLength.Statement .ldHAtHl := rfl
theorem EncodeLength.ldHA : EncodeLength.Statement .ldHA := rfl
theorem EncodeLength.ldLB : EncodeLength.Statement .ldLB := rfl
theorem EncodeLength.ldLC : EncodeLength.Statement .ldLC := rfl
theorem EncodeLength.ldLD : EncodeLength.Statement .ldLD := rfl
theorem EncodeLength.ldLE : EncodeLength.Statement .ldLE := rfl
theorem EncodeLength.ldLH : EncodeLength.Statement .ldLH := rfl
theorem EncodeLength.ldLL : EncodeLength.Statement .ldLL := rfl
theorem EncodeLength.ldLAtHl : EncodeLength.Statement .ldLAtHl := rfl
theorem EncodeLength.ldLA : EncodeLength.Statement .ldLA := rfl
theorem EncodeLength.ldAtHlB : EncodeLength.Statement .ldAtHlB := rfl
theorem EncodeLength.ldAtHlC : EncodeLength.Statement .ldAtHlC := rfl
theorem EncodeLength.ldAtHlD : EncodeLength.Statement .ldAtHlD := rfl
theorem EncodeLength.ldAtHlE : EncodeLength.Statement .ldAtHlE := rfl
theorem EncodeLength.ldAtHlH : EncodeLength.Statement .ldAtHlH := rfl
theorem EncodeLength.ldAtHlL : EncodeLength.Statement .ldAtHlL := rfl
theorem EncodeLength.ldAtHlA : EncodeLength.Statement .ldAtHlA := rfl
theorem EncodeLength.ldAB : EncodeLength.Statement .ldAB := rfl
theorem EncodeLength.ldAC : EncodeLength.Statement .ldAC := rfl
theorem EncodeLength.ldAD : EncodeLength.Statement .ldAD := rfl
theorem EncodeLength.ldAE : EncodeLength.Statement .ldAE := rfl
theorem EncodeLength.ldAH : EncodeLength.Statement .ldAH := rfl
theorem EncodeLength.ldAL : EncodeLength.Statement .ldAL := rfl
theorem EncodeLength.ldAAtHl : EncodeLength.Statement .ldAAtHl := rfl
theorem EncodeLength.ldAA : EncodeLength.Statement .ldAA := rfl
theorem EncodeLength.addAB : EncodeLength.Statement .addAB := rfl
theorem EncodeLength.addAC : EncodeLength.Statement .addAC := rfl
theorem EncodeLength.addAD : EncodeLength.Statement .addAD := rfl
theorem EncodeLength.addAE : EncodeLength.Statement .addAE := rfl
theorem EncodeLength.addAH : EncodeLength.Statement .addAH := rfl
theorem EncodeLength.addAL : EncodeLength.Statement .addAL := rfl
theorem EncodeLength.addAAtHl : EncodeLength.Statement .addAAtHl := rfl
theorem EncodeLength.addAA : EncodeLength.Statement .addAA := rfl
theorem EncodeLength.adcAB : EncodeLength.Statement .adcAB := rfl
theorem EncodeLength.adcAC : EncodeLength.Statement .adcAC := rfl
theorem EncodeLength.adcAD : EncodeLength.Statement .adcAD := rfl
theorem EncodeLength.adcAE : EncodeLength.Statement .adcAE := rfl
theorem EncodeLength.adcAH : EncodeLength.Statement .adcAH := rfl
theorem EncodeLength.adcAL : EncodeLength.Statement .adcAL := rfl
theorem EncodeLength.adcAAtHl : EncodeLength.Statement .adcAAtHl := rfl
theorem EncodeLength.adcAA : EncodeLength.Statement .adcAA := rfl
theorem EncodeLength.subB : EncodeLength.Statement .subB := rfl
theorem EncodeLength.subC : EncodeLength.Statement .subC := rfl
theorem EncodeLength.subD : EncodeLength.Statement .subD := rfl
theorem EncodeLength.subE : EncodeLength.Statement .subE := rfl
theorem EncodeLength.subH : EncodeLength.Statement .subH := rfl
theorem EncodeLength.subL : EncodeLength.Statement .subL := rfl
theorem EncodeLength.subAtHl : EncodeLength.Statement .subAtHl := rfl
theorem EncodeLength.subA : EncodeLength.Statement .subA := rfl
theorem EncodeLength.sbcAB : EncodeLength.Statement .sbcAB := rfl
theorem EncodeLength.sbcAC : EncodeLength.Statement .sbcAC := rfl
theorem EncodeLength.sbcAD : EncodeLength.Statement .sbcAD := rfl
theorem EncodeLength.sbcAE : EncodeLength.Statement .sbcAE := rfl
theorem EncodeLength.sbcAH : EncodeLength.Statement .sbcAH := rfl
theorem EncodeLength.sbcAL : EncodeLength.Statement .sbcAL := rfl
theorem EncodeLength.sbcAAtHl : EncodeLength.Statement .sbcAAtHl := rfl
theorem EncodeLength.sbcAA : EncodeLength.Statement .sbcAA := rfl
theorem EncodeLength.addAD8 (d8 : Byte) : EncodeLength.Statement (.addAD8 d8) := rfl
theorem EncodeLength.prefixCb (opcode2 : Byte) : EncodeLength.Statement (.prefixCb opcode2) := rfl
theorem EncodeLength.adcAD8 (d8 : Byte) : EncodeLength.Statement (.adcAD8 d8) := rfl
theorem EncodeLength.subD8 (d8 : Byte) : EncodeLength.Statement (.subD8 d8) := rfl
theorem EncodeLength.sbcAD8 (d8 : Byte) : EncodeLength.Statement (.sbcAD8 d8) := rfl

end Sys2Proof.Laws
end

