-- ==== Sys2Proof/Tests/Slice0.lean ====
section
/-!
SUPPORT. Tests.  Every expected value is the spec's: the opcode map of 30_encoding.md R65, the vectors of
95_test_vectors.md Part 1 and Part 2, the worked examples of the instruction rules.
The witnesses show, for each statement with hypotheses, a concrete state and operands that meet them.
-/

open Sys2Proof Sys2Proof.Machine Sys2Proof.Rules

namespace Sys2Proof.Tests

/-! ### Helpers -/

/-- A state with bytes from an address up, and single bytes. -/
def withBytes (s : State) : Word → List Byte → State
  | _, [] => s
  | addr, v :: rest => withBytes (s.memWrite addr v) (addr + 1#16) rest

/-- Does the step answer a next state that passes? -/
def stepTo (s : State) (p : State → Bool) : Bool :=
  match step s with
  | .next t => p t
  | .fault _ => false
  | .refused _ => false

/-- Does the step answer this fault? -/
def stepFault (s : State) (r : Fault) : Bool :=
  match step s with
  | .next _ => false
  | .fault q => q == r
  | .refused _ => false

/-- Does every row `(first byte, instruction)` decode as it says, with 0x34 and 0x12 after the first byte? -/
def decodes (table : List (Byte × Instr)) : Bool :=
  table.all (fun row => decide (decode row.1 0x34#8 0x12#8 = .ok row.2))

/-! ### Decoding: every row of the opcode map (R64, R65) -/

/-- 44 R133, 42 R116. -/
theorem test_decode_nop_rlca : decodes [
    (0x00#8, .nop), (0x07#8, .rlca)] = true := by decide

/-- 43 R125, R126. -/
theorem test_decode_ld_pair_d16 : decodes [
    (0x01#8, .ldBcD16 0x1234#16), (0x11#8, .ldDeD16 0x1234#16), (0x21#8, .ldHlD16 0x1234#16), (0x31#8, .ldSpD16 0x1234#16)] = true := by decide

/-- 42 R114, R115. -/
theorem test_decode_add_hl : decodes [
    (0x09#8, .addHlBc), (0x19#8, .addHlDe), (0x29#8, .addHlHl), (0x39#8, .addHlSp)] = true := by decide

/-- 42 R110, R111. -/
theorem test_decode_inc : decodes [
    (0x04#8, .incB), (0x0C#8, .incC), (0x14#8, .incD), (0x1C#8, .incE), (0x24#8, .incH),
    (0x2C#8, .incL), (0x3C#8, .incA), (0x34#8, .incAtHl)] = true := by decide

/-- 42 R112, R113. -/
theorem test_decode_dec : decodes [
    (0x05#8, .decB), (0x0D#8, .decC), (0x15#8, .decD), (0x1D#8, .decE), (0x25#8, .decH),
    (0x2D#8, .decL), (0x3D#8, .decA), (0x35#8, .decAtHl)] = true := by decide

/-- 43 R123, R124. -/
theorem test_decode_ld_d8 : decodes [
    (0x06#8, .ldBD8 0x34#8), (0x0E#8, .ldCD8 0x34#8), (0x16#8, .ldDD8 0x34#8), (0x1E#8, .ldED8 0x34#8), (0x26#8, .ldHD8 0x34#8),
    (0x2E#8, .ldLD8 0x34#8), (0x3E#8, .ldAD8 0x34#8), (0x36#8, .ldAtHlD8 0x34#8)] = true := by decide

/-- 43 R120. -/
theorem test_decode_ld_r_r_low : decodes [
    (0x40#8, .ldBB), (0x41#8, .ldBC), (0x42#8, .ldBD), (0x43#8, .ldBE), (0x44#8, .ldBH),
    (0x45#8, .ldBL), (0x47#8, .ldBA), (0x48#8, .ldCB), (0x49#8, .ldCC), (0x4A#8, .ldCD),
    (0x4B#8, .ldCE), (0x4C#8, .ldCH), (0x4D#8, .ldCL), (0x4F#8, .ldCA), (0x50#8, .ldDB),
    (0x51#8, .ldDC), (0x52#8, .ldDD), (0x53#8, .ldDE), (0x54#8, .ldDH), (0x55#8, .ldDL),
    (0x57#8, .ldDA), (0x58#8, .ldEB), (0x59#8, .ldEC), (0x5A#8, .ldED), (0x5B#8, .ldEE),
    (0x5C#8, .ldEH), (0x5D#8, .ldEL), (0x5F#8, .ldEA)] = true := by decide

/-- 43 R120. -/
theorem test_decode_ld_r_r_high : decodes [
    (0x60#8, .ldHB), (0x61#8, .ldHC), (0x62#8, .ldHD), (0x63#8, .ldHE), (0x64#8, .ldHH),
    (0x65#8, .ldHL), (0x67#8, .ldHA), (0x68#8, .ldLB), (0x69#8, .ldLC), (0x6A#8, .ldLD),
    (0x6B#8, .ldLE), (0x6C#8, .ldLH), (0x6D#8, .ldLL), (0x6F#8, .ldLA), (0x78#8, .ldAB),
    (0x79#8, .ldAC), (0x7A#8, .ldAD), (0x7B#8, .ldAE), (0x7C#8, .ldAH), (0x7D#8, .ldAL),
    (0x7F#8, .ldAA)] = true := by decide

/-- 43 R121. -/
theorem test_decode_ld_r_hl : decodes [
    (0x46#8, .ldBAtHl), (0x4E#8, .ldCAtHl), (0x56#8, .ldDAtHl), (0x5E#8, .ldEAtHl), (0x66#8, .ldHAtHl),
    (0x6E#8, .ldLAtHl), (0x7E#8, .ldAAtHl)] = true := by decide

/-- 43 R122. -/
theorem test_decode_ld_hl_r : decodes [
    (0x70#8, .ldAtHlB), (0x71#8, .ldAtHlC), (0x72#8, .ldAtHlD), (0x73#8, .ldAtHlE), (0x74#8, .ldAtHlH),
    (0x75#8, .ldAtHlL), (0x77#8, .ldAtHlA)] = true := by decide

/-- 41 R90 to R92. -/
theorem test_decode_add : decodes [
    (0x80#8, .addAB), (0x81#8, .addAC), (0x82#8, .addAD), (0x83#8, .addAE), (0x84#8, .addAH),
    (0x85#8, .addAL), (0x87#8, .addAA), (0x86#8, .addAAtHl), (0xC6#8, .addAD8 0x34#8)] = true := by decide

/-- 41 R93 to R95. -/
theorem test_decode_adc : decodes [
    (0x88#8, .adcAB), (0x89#8, .adcAC), (0x8A#8, .adcAD), (0x8B#8, .adcAE), (0x8C#8, .adcAH),
    (0x8D#8, .adcAL), (0x8F#8, .adcAA), (0x8E#8, .adcAAtHl), (0xCE#8, .adcAD8 0x34#8)] = true := by decide

/-- 41 R96 to R98. -/
theorem test_decode_sub : decodes [
    (0x90#8, .subB), (0x91#8, .subC), (0x92#8, .subD), (0x93#8, .subE), (0x94#8, .subH),
    (0x95#8, .subL), (0x97#8, .subA), (0x96#8, .subAtHl), (0xD6#8, .subD8 0x34#8)] = true := by decide

/-- 41 R99 to R101. -/
theorem test_decode_sbc : decodes [
    (0x98#8, .sbcAB), (0x99#8, .sbcAC), (0x9A#8, .sbcAD), (0x9B#8, .sbcAE), (0x9C#8, .sbcAH),
    (0x9D#8, .sbcAL), (0x9F#8, .sbcAA), (0x9E#8, .sbcAAtHl), (0xDE#8, .sbcAD8 0x34#8)] = true := by decide

/-- 44 R135. -/
theorem test_decode_escape : decodes [
    (0xCB#8, .prefixCb 0x34#8)] = true := by decide

/-- R61, R64: words bit by bit; 0x78 and 0x00 are the source's own. -/
theorem test_decode_bits :
    decode 0b01111000#8 0#8 0#8 = .ok .ldAB ∧ decode 0b00000000#8 0#8 0#8 = .ok .nop ∧
      decode 0b00110001#8 0x00#8 0xD0#8 = .ok (.ldSpD16 0xD000#16) ∧ decode 0b01110101#8 0#8 0#8 = .ok .ldAtHlL ∧
      decode 0b11010110#8 0x0F#8 0#8 = .ok (.subD8 0x0F#8) := by decide

/-- 95_test_vectors.md 2.8: over all first bytes, 133 succeed, 122 are rejected, one is the escape byte. -/
theorem test_decode_counts :
    ((List.range 256).countP (fun n => (decodeFirst (BitVec.ofNat 8 n) 0#8 0#8).isSome),
      (List.range 256).countP (fun n => isUnimplemented (BitVec.ofNat 8 n)),
      (List.range 256).countP (fun n => opcodeLength (BitVec.ofNat 8 n) == some 1)) = (133, 122, 117) := by
  decide +kernel

/-- The host's numbering: bit 0 is the least significant bit of the first byte; bits above `nbits` are 0. -/
theorem test_decodeTableWord :
    decodeTableWord 24 0x123421 = some (.ldHlD16 0x1234#16) ∧ decodeTableWord 8 0x123421 = some (.ldHlD16 0#16) ∧
      decodeTableWord 16 0x07CB = some (.prefixCb 0x07#8) ∧ decodeTableWord 8 0x76 = none := by decide

/-- The step runs the placed word as the first instruction after reset. -/
theorem test_withFetchWord :
    stepTo (State.reset.withFetchWord 24 0x123421) (fun t => t.h == 0x12#8 && t.l == 0x34#8 && t.pc == 0x0103#16) = true := by
  decide

/-! ### Well-formedness

No check of `wellFormed` can fail: the types bound every operand, so there is no ill-formed term to refuse. -/

theorem test_wellFormed_refuses_nothing (i : Instr) : i.wellFormed = true := rfl

/-- 30_encoding.md R67: the escape byte has no operation; R65: the others have. -/
theorem test_isImplemented : (Instr.prefixCb 0x07#8).isImplemented = false ∧ Instr.rlca.isImplemented = true := by decide

/-! ### The ALU routines: 95_test_vectors.md 2.1 to 2.5 -/

/-- 2.1: a, v, c, result, Z, N, Hf, Cy. -/
theorem test_add8 : (([
    (0x00#8, 0x00#8, false, 0x00#8, true, false, false, false),
    (0x0F#8, 0x01#8, false, 0x10#8, false, false, true, false),
    (0x08#8, 0x08#8, false, 0x10#8, false, false, true, false),
    (0xFF#8, 0x01#8, false, 0x00#8, true, false, true, true),
    (0x80#8, 0x80#8, false, 0x00#8, true, false, false, true),
    (0x3A#8, 0xC6#8, false, 0x00#8, true, false, true, true),
    (0x0F#8, 0x00#8, true, 0x10#8, false, false, true, false),
    (0xFF#8, 0x00#8, true, 0x00#8, true, false, true, true),
    (0x00#8, 0xFF#8, true, 0x00#8, true, false, true, true),
    (0x7F#8, 0x7F#8, true, 0xFF#8, false, false, true, false),
    (0xF0#8, 0x0F#8, true, 0x00#8, true, false, true, true),
    (0xE1#8, 0x0F#8, true, 0xF1#8, false, false, true, false),
    (0xFF#8, 0xFF#8, true, 0xFF#8, false, false, true, true)] : List (Byte × Byte × Bool × Byte × Bool × Bool × Bool × Bool)).all (fun ⟨a, v, c, r, z, n, h, y⟩ =>
    decide (add8 a v c = ⟨r, ⟨some z, some n, some h, some y⟩⟩))) = true := by decide

/-- 2.2: a, v, c, result, Z, N, Hf, Cy. -/
theorem test_sub8 : (([
    (0x00#8, 0x00#8, false, 0x00#8, true, true, false, false),
    (0x3E#8, 0x3E#8, false, 0x00#8, true, true, false, false),
    (0x3E#8, 0x0F#8, false, 0x2F#8, false, true, true, false),
    (0x3E#8, 0x40#8, false, 0xFE#8, false, true, false, true),
    (0x05#8, 0x0A#8, false, 0xFB#8, false, true, true, true),
    (0x00#8, 0x01#8, false, 0xFF#8, false, true, true, true),
    (0x10#8, 0x01#8, false, 0x0F#8, false, true, true, false),
    (0x00#8, 0x00#8, true, 0xFF#8, false, true, true, true),
    (0x01#8, 0x00#8, true, 0x00#8, true, true, false, false),
    (0x10#8, 0x0F#8, true, 0x00#8, true, true, true, false),
    (0x3B#8, 0x2A#8, true, 0x10#8, false, true, false, false),
    (0x3B#8, 0x4F#8, true, 0xEB#8, false, true, true, true),
    (0x80#8, 0x7F#8, true, 0x00#8, true, true, true, false),
    (0x00#8, 0xFF#8, true, 0x00#8, true, true, true, true),
    (0xFF#8, 0xFF#8, true, 0xFF#8, false, true, true, true)] : List (Byte × Byte × Bool × Byte × Bool × Bool × Bool × Bool)).all (fun ⟨a, v, c, r, z, n, h, y⟩ =>
    decide (sub8 a v c = ⟨r, ⟨some z, some n, some h, some y⟩⟩))) = true := by decide

/-- 2.3: hl, v, result, N, Hf, Cy; Z is never written. -/
theorem test_add16 : (([
    (0x0000#16, 0x0000#16, 0x0000#16, false, false, false),
    (0x00FF#16, 0x0001#16, 0x0100#16, false, false, false),
    (0x0FFF#16, 0x0001#16, 0x1000#16, false, true, false),
    (0x0800#16, 0x0800#16, 0x1000#16, false, true, false),
    (0x8A23#16, 0x0605#16, 0x9028#16, false, true, false),
    (0x8A23#16, 0x8A23#16, 0x1446#16, false, true, true),
    (0xF000#16, 0x1000#16, 0x0000#16, false, false, true),
    (0x8000#16, 0x8000#16, 0x0000#16, false, false, true),
    (0xFFFF#16, 0x0001#16, 0x0000#16, false, true, true),
    (0xFFFF#16, 0xFFFF#16, 0xFFFE#16, false, true, true),
    (0x014D#16, 0x0013#16, 0x0160#16, false, false, false)] : List (Word × Word × Word × Bool × Bool × Bool)).all (fun ⟨a, v, r, n, h, y⟩ =>
    decide (add16 a v = ⟨r, ⟨none, some n, some h, some y⟩⟩))) = true := by decide

/-- 2.4: x, result, Z, N, Hf; Cy is never written. -/
theorem test_inc8 : (([
    (0x00#8, 0x01#8, false, false, false),
    (0x0F#8, 0x10#8, false, false, true),
    (0x10#8, 0x11#8, false, false, false),
    (0x7F#8, 0x80#8, false, false, true),
    (0xEF#8, 0xF0#8, false, false, true),
    (0xFF#8, 0x00#8, true, false, true)] : List (Byte × Byte × Bool × Bool × Bool)).all (fun ⟨x, r, z, n, h⟩ =>
    decide (inc8 x = ⟨r, ⟨some z, some n, some h, none⟩⟩))) = true := by decide

/-- 2.4: x, result, Z, N, Hf; Cy is never written. -/
theorem test_dec8 : (([
    (0x01#8, 0x00#8, true, true, false),
    (0x00#8, 0xFF#8, false, true, true),
    (0x10#8, 0x0F#8, false, true, true),
    (0x0F#8, 0x0E#8, false, true, false),
    (0x80#8, 0x7F#8, false, true, true),
    (0xF0#8, 0xEF#8, false, true, true),
    (0xFF#8, 0xFE#8, false, true, false)] : List (Byte × Byte × Bool × Bool × Bool)).all (fun ⟨x, r, z, n, h⟩ =>
    decide (dec8 x = ⟨r, ⟨some z, some n, some h, none⟩⟩))) = true := by decide

/-- 2.5: a, result, Z, N, Hf, Cy. -/
theorem test_rlc8 : (([
    (0x85#8, 0x0B#8, false, false, false, true),
    (0x80#8, 0x01#8, false, false, false, true),
    (0x01#8, 0x02#8, false, false, false, false),
    (0x40#8, 0x80#8, false, false, false, false),
    (0x7F#8, 0xFE#8, false, false, false, false),
    (0xFF#8, 0xFF#8, false, false, false, true),
    (0x00#8, 0x00#8, true, false, false, false)] : List (Byte × Byte × Bool × Bool × Bool × Bool)).all (fun ⟨a, r, z, n, h, y⟩ =>
    decide (rlc8 a = ⟨r, ⟨some z, some n, some h, some y⟩⟩))) = true := by decide

/-! ### Single steps: 95_test_vectors.md 2.6 and 2.7, the instruction at 0x0100 -/

/-- 2.6, 41 R90. -/
theorem test_step_ADD_A_B :
    stepTo (withBytes { State.reset with a := 0x0F#8, b := 0x01#8, f := 0x00#8 } 0x0100#16 [0x80#8])
      (fun t => t.a == 0x10#8 && t.f == 0x20#8 && t.pc == 0x0101#16) = true := by decide

/-- 2.6, 41 R90. -/
theorem test_step_ADD_A_A :
    stepTo (withBytes { State.reset with a := 0x80#8, f := 0x00#8 } 0x0100#16 [0x87#8])
      (fun t => t.a == 0x00#8 && t.f == 0x90#8 && t.pc == 0x0101#16) = true := by decide

/-- 2.6, 41 R91. -/
theorem test_step_ADD_A_atHl :
    stepTo (withBytes (withBytes { State.reset with a := 0x3A#8, h := 0xC0#8, l := 0x00#8, f := 0x00#8 } 0x0100#16 [0x86#8]) 0xC000#16 [0xC6#8])
      (fun t => t.a == 0x00#8 && t.f == 0xB0#8 && t.pc == 0x0101#16) = true := by decide

/-- 2.6, 41 R92. -/
theorem test_step_ADD_A_01 :
    stepTo (withBytes { State.reset with a := 0xFF#8, f := 0x00#8 } 0x0100#16 [0xC6#8, 0x01#8])
      (fun t => t.a == 0x00#8 && t.f == 0xB0#8 && t.pc == 0x0102#16) = true := by decide

/-- 2.6, 41 R93. -/
theorem test_step_ADC_A_C :
    stepTo (withBytes { State.reset with a := 0xE1#8, c := 0x0F#8, f := 0x10#8 } 0x0100#16 [0x89#8])
      (fun t => t.a == 0xF1#8 && t.f == 0x20#8 && t.pc == 0x0101#16) = true := by decide

/-- 2.6, 41 R93. -/
theorem test_step_ADC_A_A :
    stepTo (withBytes { State.reset with a := 0x80#8, f := 0x10#8 } 0x0100#16 [0x8F#8])
      (fun t => t.a == 0x01#8 && t.f == 0x10#8 && t.pc == 0x0101#16) = true := by decide

/-- 2.6, 41 R94. -/
theorem test_step_ADC_A_atHl :
    stepTo (withBytes (withBytes { State.reset with a := 0xFF#8, h := 0xC0#8, l := 0x00#8, f := 0x10#8 } 0x0100#16 [0x8E#8]) 0xC000#16 [0xFF#8])
      (fun t => t.a == 0xFF#8 && t.f == 0x30#8 && t.pc == 0x0101#16) = true := by decide

/-- 2.6, 41 R95. -/
theorem test_step_ADC_A_00 :
    stepTo (withBytes { State.reset with a := 0x0F#8, f := 0x10#8 } 0x0100#16 [0xCE#8, 0x00#8])
      (fun t => t.a == 0x10#8 && t.f == 0x20#8 && t.pc == 0x0102#16) = true := by decide

/-- 2.6, 41 R95. -/
theorem test_step_ADC_A_00_2 :
    stepTo (withBytes { State.reset with a := 0x0F#8, f := 0x00#8 } 0x0100#16 [0xCE#8, 0x00#8])
      (fun t => t.a == 0x0F#8 && t.f == 0x00#8 && t.pc == 0x0102#16) = true := by decide

/-- 2.6, 41 R96. -/
theorem test_step_SUB_D :
    stepTo (withBytes { State.reset with a := 0x05#8, d := 0x0A#8, f := 0x00#8 } 0x0100#16 [0x92#8])
      (fun t => t.a == 0xFB#8 && t.f == 0x70#8 && t.pc == 0x0101#16) = true := by decide

/-- 2.6, 41 R96. -/
theorem test_step_SUB_A :
    stepTo (withBytes { State.reset with a := 0x77#8, f := 0x10#8 } 0x0100#16 [0x97#8])
      (fun t => t.a == 0x00#8 && t.f == 0xC0#8 && t.pc == 0x0101#16) = true := by decide

/-- 2.6, 41 R97. -/
theorem test_step_SUB_atHl :
    stepTo (withBytes (withBytes { State.reset with a := 0x3E#8, h := 0xC0#8, l := 0x00#8, f := 0x00#8 } 0x0100#16 [0x96#8]) 0xC000#16 [0x40#8])
      (fun t => t.a == 0xFE#8 && t.f == 0x50#8 && t.pc == 0x0101#16) = true := by decide

/-- 2.6, 41 R98. -/
theorem test_step_SUB_0F :
    stepTo (withBytes { State.reset with a := 0x3E#8, f := 0x00#8 } 0x0100#16 [0xD6#8, 0x0F#8])
      (fun t => t.a == 0x2F#8 && t.f == 0x60#8 && t.pc == 0x0102#16) = true := by decide

/-- 2.6, 41 R99. -/
theorem test_step_SBC_A_H :
    stepTo (withBytes { State.reset with a := 0x3B#8, h := 0x2A#8, f := 0x10#8 } 0x0100#16 [0x9C#8])
      (fun t => t.a == 0x10#8 && t.f == 0x40#8 && t.pc == 0x0101#16) = true := by decide

/-- 2.6, 41 R99. -/
theorem test_step_SBC_A_A :
    stepTo (withBytes { State.reset with a := 0x42#8, f := 0x10#8 } 0x0100#16 [0x9F#8])
      (fun t => t.a == 0xFF#8 && t.f == 0x70#8 && t.pc == 0x0101#16) = true := by decide

/-- 2.6, 41 R99. -/
theorem test_step_SBC_A_A_2 :
    stepTo (withBytes { State.reset with a := 0x42#8, f := 0x00#8 } 0x0100#16 [0x9F#8])
      (fun t => t.a == 0x00#8 && t.f == 0xC0#8 && t.pc == 0x0101#16) = true := by decide

/-- 2.6, 41 R100. -/
theorem test_step_SBC_A_atHl :
    stepTo (withBytes (withBytes { State.reset with a := 0x3B#8, h := 0xC0#8, l := 0x00#8, f := 0x10#8 } 0x0100#16 [0x9E#8]) 0xC000#16 [0x4F#8])
      (fun t => t.a == 0xEB#8 && t.f == 0x70#8 && t.pc == 0x0101#16) = true := by decide

/-- 2.6, 41 R101. -/
theorem test_step_SBC_A_FF :
    stepTo (withBytes { State.reset with a := 0x00#8, f := 0x10#8 } 0x0100#16 [0xDE#8, 0xFF#8])
      (fun t => t.a == 0x00#8 && t.f == 0xF0#8 && t.pc == 0x0102#16) = true := by decide

/-- 2.6, 42 R110. -/
theorem test_step_INC_B :
    stepTo (withBytes { State.reset with b := 0xFF#8, f := 0x10#8 } 0x0100#16 [0x04#8])
      (fun t => t.b == 0x00#8 && t.f == 0xB0#8 && t.pc == 0x0101#16) = true := by decide

/-- 2.6, 42 R110. -/
theorem test_step_INC_A :
    stepTo (withBytes { State.reset with a := 0x0F#8, f := 0xC0#8 } 0x0100#16 [0x3C#8])
      (fun t => t.a == 0x10#8 && t.f == 0x20#8 && t.pc == 0x0101#16) = true := by decide

/-- 2.6, 42 R111. -/
theorem test_step_INC_atHl :
    stepTo (withBytes (withBytes { State.reset with h := 0xC0#8, l := 0x00#8, f := 0x10#8 } 0x0100#16 [0x34#8]) 0xC000#16 [0x0F#8])
      (fun t => t.f == 0x30#8 && t.pc == 0x0101#16 && t.memRead 0xC000#16 == 0x10#8) = true := by decide

/-- 2.6, 42 R111. -/
theorem test_step_INC_atHl_2 :
    stepTo (withBytes (withBytes { State.reset with h := 0xC0#8, l := 0x00#8, f := 0x00#8 } 0x0100#16 [0x34#8]) 0xC000#16 [0xFF#8])
      (fun t => t.f == 0xA0#8 && t.pc == 0x0101#16 && t.memRead 0xC000#16 == 0x00#8) = true := by decide

/-- 2.6, 42 R112. -/
theorem test_step_DEC_C :
    stepTo (withBytes { State.reset with c := 0x01#8, f := 0x10#8 } 0x0100#16 [0x0D#8])
      (fun t => t.c == 0x00#8 && t.f == 0xD0#8 && t.pc == 0x0101#16) = true := by decide

/-- 2.6, 42 R112. -/
theorem test_step_DEC_L :
    stepTo (withBytes { State.reset with l := 0x00#8, f := 0x00#8 } 0x0100#16 [0x2D#8])
      (fun t => t.l == 0xFF#8 && t.h == 0x01#8 && t.f == 0x60#8 && t.pc == 0x0101#16) = true := by decide

/-- 2.6, 42 R113. -/
theorem test_step_DEC_atHl :
    stepTo (withBytes (withBytes { State.reset with h := 0xC0#8, l := 0x00#8, f := 0x10#8 } 0x0100#16 [0x35#8]) 0xC000#16 [0x10#8])
      (fun t => t.f == 0x70#8 && t.pc == 0x0101#16 && t.memRead 0xC000#16 == 0x0F#8) = true := by decide

/-- 2.6, 42 R113. -/
theorem test_step_DEC_atHl_2 :
    stepTo (withBytes (withBytes { State.reset with h := 0xC0#8, l := 0x00#8, f := 0x80#8 } 0x0100#16 [0x35#8]) 0xC000#16 [0x00#8])
      (fun t => t.f == 0x60#8 && t.pc == 0x0101#16 && t.memRead 0xC000#16 == 0xFF#8) = true := by decide

/-- 2.6, 42 R114. -/
theorem test_step_ADD_HL_BC :
    stepTo (withBytes { State.reset with h := 0x8A#8, l := 0x23#8, b := 0x06#8, c := 0x05#8, f := 0x80#8 } 0x0100#16 [0x09#8])
      (fun t => t.h == 0x90#8 && t.l == 0x28#8 && t.f == 0xA0#8 && t.pc == 0x0101#16) = true := by decide

/-- 2.6, 42 R114. -/
theorem test_step_ADD_HL_DE :
    stepTo (withBytes { State.reset with h := 0x0F#8, l := 0xFF#8, d := 0x00#8, e := 0x01#8, f := 0xF0#8 } 0x0100#16 [0x19#8])
      (fun t => t.h == 0x10#8 && t.l == 0x00#8 && t.f == 0xA0#8 && t.pc == 0x0101#16) = true := by decide

/-- 2.6, 42 R114. -/
theorem test_step_ADD_HL_HL :
    stepTo (withBytes { State.reset with h := 0x8A#8, l := 0x23#8, f := 0x00#8 } 0x0100#16 [0x29#8])
      (fun t => t.h == 0x14#8 && t.l == 0x46#8 && t.f == 0x30#8 && t.pc == 0x0101#16) = true := by decide

/-- 2.6, 42 R115. -/
theorem test_step_ADD_HL_SP :
    stepTo (withBytes { State.reset with h := 0xFF#8, l := 0xFF#8, sp := 0x0001#16, f := 0x00#8 } 0x0100#16 [0x39#8])
      (fun t => t.h == 0x00#8 && t.l == 0x00#8 && t.f == 0x30#8 && t.pc == 0x0101#16) = true := by decide

/-- 2.6, 42 R115. -/
theorem test_step_ADD_HL_SP_2 :
    stepTo (withBytes State.reset 0x0100#16 [0x39#8])
      (fun t => t.h == 0x01#8 && t.l == 0x4B#8 && t.f == 0xB0#8 && t.pc == 0x0101#16) = true := by decide

/-- 2.6, 42 R116. -/
theorem test_step_RLCA :
    stepTo (withBytes { State.reset with a := 0x85#8, f := 0xF0#8 } 0x0100#16 [0x07#8])
      (fun t => t.a == 0x0B#8 && t.f == 0x10#8 && t.pc == 0x0101#16) = true := by decide

/-- 2.6, 42 R116. -/
theorem test_step_RLCA_2 :
    stepTo (withBytes { State.reset with a := 0x00#8, f := 0x10#8 } 0x0100#16 [0x07#8])
      (fun t => t.a == 0x00#8 && t.f == 0x80#8 && t.pc == 0x0101#16) = true := by decide

/-- 2.7, 43 R120. -/
theorem test_step_LD_A_B :
    stepTo (withBytes { State.reset with a := 0x51#8, b := 0x42#8 } 0x0100#16 [0x78#8])
      (fun t => t.a == 0x42#8 && t.pc == 0x0101#16 && t.f == 0xF0#8) = true := by decide

/-- 2.7, 43 R120. -/
theorem test_step_LD_A_A :
    stepTo (withBytes { State.reset with a := 0x51#8 } 0x0100#16 [0x7F#8])
      (fun t => t.a == 0x51#8 && t.pc == 0x0101#16 && t.f == 0xF0#8) = true := by decide

/-- 2.7, 43 R120. -/
theorem test_step_LD_H_L :
    stepTo (withBytes { State.reset with h := 0x12#8, l := 0x34#8 } 0x0100#16 [0x65#8])
      (fun t => t.h == 0x34#8 && t.l == 0x34#8 && t.pc == 0x0101#16 && t.f == 0xF0#8) = true := by decide

/-- 2.7, 43 R121. -/
theorem test_step_LD_B_atHl :
    stepTo (withBytes (withBytes { State.reset with h := 0xC0#8, l := 0x10#8 } 0x0100#16 [0x46#8]) 0xC010#16 [0x99#8])
      (fun t => t.b == 0x99#8 && t.pc == 0x0101#16 && t.f == 0xF0#8) = true := by decide

/-- 2.7, 43 R121. -/
theorem test_step_LD_H_atHl :
    stepTo (withBytes (withBytes { State.reset with h := 0xC0#8, l := 0x10#8 } 0x0100#16 [0x66#8]) 0xC010#16 [0x99#8])
      (fun t => t.h == 0x99#8 && t.l == 0x10#8 && t.pc == 0x0101#16 && t.f == 0xF0#8) = true := by decide

/-- 2.7, 43 R121. -/
theorem test_step_LD_L_atHl :
    stepTo (withBytes (withBytes { State.reset with h := 0xC0#8, l := 0x10#8 } 0x0100#16 [0x6E#8]) 0xC010#16 [0x99#8])
      (fun t => t.h == 0xC0#8 && t.l == 0x99#8 && t.pc == 0x0101#16 && t.f == 0xF0#8) = true := by decide

/-- 2.7, 43 R122. -/
theorem test_step_LD_atHl_E :
    stepTo (withBytes { State.reset with h := 0xC0#8, l := 0x10#8, e := 0x77#8 } 0x0100#16 [0x73#8])
      (fun t => t.pc == 0x0101#16 && t.memRead 0xC010#16 == 0x77#8 && t.f == 0xF0#8) = true := by decide

/-- 2.7, 43 R122. -/
theorem test_step_LD_atHl_H :
    stepTo (withBytes { State.reset with h := 0xC0#8, l := 0x10#8 } 0x0100#16 [0x74#8])
      (fun t => t.pc == 0x0101#16 && t.memRead 0xC010#16 == 0xC0#8 && t.f == 0xF0#8) = true := by decide

/-- 2.7, 43 R122. -/
theorem test_step_LD_atHl_L :
    stepTo (withBytes { State.reset with h := 0xC0#8, l := 0x10#8 } 0x0100#16 [0x75#8])
      (fun t => t.pc == 0x0101#16 && t.memRead 0xC010#16 == 0x10#8 && t.f == 0xF0#8) = true := by decide

/-- 2.7, 43 R123. -/
theorem test_step_LD_D_AB :
    stepTo (withBytes State.reset 0x0100#16 [0x16#8, 0xAB#8])
      (fun t => t.d == 0xAB#8 && t.pc == 0x0102#16 && t.f == 0xF0#8) = true := by decide

/-- 2.7, 43 R124. -/
theorem test_step_LD_atHl_5A :
    stepTo (withBytes { State.reset with h := 0xC0#8, l := 0x10#8 } 0x0100#16 [0x36#8, 0x5A#8])
      (fun t => t.pc == 0x0102#16 && t.memRead 0xC010#16 == 0x5A#8 && t.f == 0xF0#8) = true := by decide

/-- 2.7, 43 R125. -/
theorem test_step_LD_BC_1234 :
    stepTo (withBytes State.reset 0x0100#16 [0x01#8, 0x34#8, 0x12#8])
      (fun t => t.b == 0x12#8 && t.c == 0x34#8 && t.pc == 0x0103#16 && t.f == 0xF0#8) = true := by decide

/-- 2.7, 43 R125. -/
theorem test_step_LD_HL_1234 :
    stepTo (withBytes State.reset 0x0100#16 [0x21#8, 0x34#8, 0x12#8])
      (fun t => t.h == 0x12#8 && t.l == 0x34#8 && t.pc == 0x0103#16 && t.f == 0xF0#8) = true := by decide

/-- 2.7, 43 R126. -/
theorem test_step_LD_SP_D000 :
    stepTo (withBytes State.reset 0x0100#16 [0x31#8, 0x00#8, 0xD0#8])
      (fun t => t.sp == 0xD000#16 && t.pc == 0x0103#16 && t.f == 0xF0#8) = true := by decide

/-! ### The engine, wrap-around, the error: 95_test_vectors.md 2.8 -/

theorem test_step_NOP_wraps :
    stepTo { State.reset with pc := 0xFFFF#16 } (fun t => t.pc == 0x0000#16 && t.f == 0xF0#8) = true := by decide

theorem test_step_operand_wraps :
    stepTo (withBytes { State.reset with pc := 0xFFFF#16 } 0xFFFF#16 [0x3E#8, 0x77#8])
      (fun t => t.a == 0x77#8 && t.pc == 0x0001#16) = true := by decide

theorem test_step_d16_wraps :
    stepTo (withBytes { State.reset with pc := 0xFFFF#16 } 0xFFFF#16 [0x21#8, 0x34#8, 0x12#8])
      (fun t => t.h == 0x12#8 && t.l == 0x34#8 && t.pc == 0x0002#16) = true := by decide

theorem test_step_unimplemented :
    stepFault (withBytes State.reset 0x0100#16 [0x76#8]) (.unimplementedOpcode 0x76#8 false 0x0100#16) = true ∧
      stepFault (withBytes State.reset 0x0100#16 [0xC3#8, 0x00#8, 0x01#8]) (.unimplementedOpcode 0xC3#8 false 0x0100#16) = true := by
  decide

theorem test_step_PREFIX_CB :
    stepFault (withBytes State.reset 0x0100#16 [0xCB#8, 0xCB#8]) (.unimplementedOpcode 0xCB#8 true 0x0100#16) = true ∧
      stepFault (withBytes { State.reset with pc := 0xFFFF#16 } 0xFFFF#16 [0xCB#8, 0x11#8])
        (.unimplementedOpcode 0x11#8 true 0xFFFF#16) = true := by
  decide

/-! ### The register file: 95_test_vectors.md 2.9 -/

theorem test_pairs :
    (State.reset.writeRp .bc 0xABCD#16).b = 0xAB#8 ∧ (State.reset.writeRp .bc 0xABCD#16).c = 0xCD#8 ∧
      (State.reset.writeAf 0x12FF#16).f = 0xF0#8 ∧ (State.reset.writeAf 0x1230#16).af = 0x1230#16 := by decide

theorem test_flag_accessors :
    (State.reset.setFlag .cy false).f = 0xE0#8 ∧ (State.reset.setFlag .z false).f = 0x70#8 ∧
      ((State.reset.writeF 0x00#8).setFlag .hf true).f = 0x20#8 ∧ (State.reset.writeF 0x40#8).flag .n = true := by decide

theorem test_incrementPc : ((State.reset.writePc 0xFFFE#16).incrementPc 3#16).pc = 0x0001#16 := by decide

/-- Storing what an unlisted address reads as leaves no entry; equal memories are equal data. -/
theorem test_memory_canonical :
    ((State.reset.memWrite 0x0005#16 0x01#8).memWrite 0x0005#16 0x00#8).mem = [] ∧
      ((State.reset.memWrite 0xFFFF#16 0x01#8).memWrite 0x0000#16 0x02#8).mem = [(0, 0x02#8), (65535, 0x01#8)] := by decide

/-! ### Witnesses: concrete states and operands that meet the hypotheses of the statements -/

/-- A state whose next instruction is these bytes at 0x0100. -/
def next (bytes : List Byte) : State := withBytes State.reset 0x0100#16 bytes

theorem witness_StepKeepsInvariant : (next [0x36#8, 0xFF#8]).Inv ∧ stepTo (next [0x36#8, 0xFF#8]) (fun _ => true) = true := by
  decide

theorem witness_DutifulHostKeepsInvariant :
    State.reset.Inv ∧ (HostAction.writeF 0x30#8).dutiful = true ∧ (HostAction.memWrite 0xFFFF#16 0x01#8).dutiful = true := by
  decide

theorem witness_StepRunsDecodedInstruction :
    decode ((next [0x21#8, 0xFF#8, 0xFF#8]).memRead 0x0100#16) ((next [0x21#8, 0xFF#8, 0xFF#8]).memRead (0x0100#16 + 1#16))
      ((next [0x21#8, 0xFF#8, 0xFF#8]).memRead (0x0100#16 + 2#16)) = .ok (.ldHlD16 0xFFFF#16) := by decide

theorem witness_DecodedBytesAreTheEncoding : decode 0x31#8 0xFF#8 0xFF#8 = .ok (.ldSpD16 0xFFFF#16) := by decide

theorem witness_UnimplementedBytesAreTheListed122 :
    isUnimplemented (opcodeAt (next [0x02#8])) = true ∧ isUnimplemented (opcodeAt (next [0xFF#8])) = true := by decide

theorem witness_EscapeByteRaisesPrefixed : opcodeAt (next [0xCB#8, 0xFF#8]) = 0xCB#8 := by decide

theorem witness_StepCompletesAtEveryImplementedByte :
    isUnimplemented (opcodeAt (next [0xDE#8])) = false ∧ opcodeAt (next [0xDE#8]) ≠ 0xCB#8 := by decide

theorem witness_CompletedStepAdvancesPcByLength :
    stepTo (withBytes { State.reset with pc := 0xFFFF#16 } 0xFFFF#16 [0x31#8]) (fun t => t.pc == 0x0002#16) = true := by decide

theorem witness_ErrorEndsTheRunForGood :
    (runFor 3 (next [0x04#8, 0xCB#8, 0x37#8])).stop = .error (.unimplementedOpcode 0x37#8 true 0x0101#16) ∧
      (runFor 1 (next [0x76#8])).stop = .error (.unimplementedOpcode 0x76#8 false 0x0100#16) := by decide

theorem witness_ZeroMemoryExecutesNopForEver : ∀ x : Word, State.reset.memRead x = 0x00#8 := fun _ => rfl

theorem witness_NoInstructionReadsZNOrHf :
    (0x10#8).getLsbD 4 = (next [0x89#8]).f.getLsbD 4 ∧
      (stepTo (next [0x89#8]) (fun _ => flagsWritten 0x89#8 == 0xF0#8) && stepTo (next [0x07#8]) (fun _ => flagsWritten 0x07#8 == 0xF0#8) &&
        stepTo (next [0x34#8]) (fun _ => flagsWritten 0x34#8 == 0xE0#8) && stepTo (next [0x39#8]) (fun _ => flagsWritten 0x39#8 == 0x70#8) &&
        stepTo (next [0x7F#8]) (fun _ => flagsWritten 0x7F#8 == 0x00#8)) = true := by decide

theorem witness_SpIsUsedByTwoInstructionsOnly :
    stepTo (next [0x31#8]) (fun _ => opcodeAt (next [0x31#8]) != 0x39#8) = true ∧
      stepTo (next [0x39#8]) (fun _ => opcodeAt (next [0x39#8]) != 0x31#8) = true := by decide

theorem witness_MemoryChangesOnlyAtHlDestinations :
    stepTo (next [0x77#8]) (fun _ => storeBytesOfTable.contains 0x77) = true ∧
      stepTo (next [0x78#8]) (fun _ => !storeBytesOfTable.contains 0x78) = true := by decide

theorem witness_UnwrittenFlagsStayAsTabled :
    (stepTo (next [0x00#8]) (fun _ => writesNoFlag 0x00#8) && stepTo (next [0x7F#8]) (fun _ => writesNoFlag 0x7F#8) &&
      stepTo (next [0x04#8]) (fun _ => isIncDec 0x04#8) && stepTo (next [0x3D#8]) (fun _ => isIncDec 0x3D#8) &&
      stepTo (next [0x09#8]) (fun _ => isAddHl 0x09#8) && stepTo (next [0x39#8]) (fun _ => isAddHl 0x39#8)) = true := by decide

/-- LD (HL),A with A = 0x3C and HL = 0x0101: the next step is INC A. -/
theorem witness_StoreIsSeenByTheNextFetch :
    let s := { next [0x77#8] with a := 0x3C#8, h := 0x01#8, l := 0x01#8 }
    bytesAt s s.pc [byte (0x70 + regField .a)] = true ∧ s.hl = s.pc + 1#16 ∧
      decode (s.readReg8 .a) (s.memRead (s.pc + 2#16)) (s.memRead (s.pc + 3#16)) = .ok .incA := by decide

theorem witness_IncrementOfItsOwnOpcodeByte :
    let s := { next [0x34#8] with h := 0x01#8, l := 0x00#8 }
    bytesAt s s.pc [0x34#8] = true ∧ s.hl = s.pc := by decide

theorem witness_CanonicalMemoryIsDeterminedByReads :
    let s := next [0x01#8]
    let t := (next [0x01#8]).memWrite 0xC000#16 0x05#8 |>.memWrite 0xC000#16 0x00#8
    Memory.wf s.mem = true ∧ Memory.wf t.mem = true ∧ memoryKept s t := by
  refine ⟨by decide, by decide, fun x => ?_⟩
  rw [show ((next [0x01#8]).memWrite 0xC000#16 0x05#8 |>.memWrite 0xC000#16 0x00#8) = next [0x01#8] by decide]

theorem witness_FlagAccessorsTouchOneBit : State.reset.f &&& 0x0F#8 = 0x00#8 := by decide

theorem witness_NopOnlyAdvancesPc : bytesAt (next [0x00#8]) 0x0100#16 [0x00#8] = true := by decide

theorem witness_LoadRegisterFromRegister :
    bytesAt (next [0x40#8]) 0x0100#16 [byte (0x40 + 8 * regField .b + regField .b)] = true ∧
      bytesAt (next [0x7F#8]) 0x0100#16 [byte (0x40 + 8 * regField .a + regField .a)] = true := by decide

theorem witness_LoadRegisterFromMemory :
    bytesAt (next [0x46#8]) 0x0100#16 [byte (0x46 + 8 * regField .b)] = true ∧
      bytesAt (next [0x7E#8]) 0x0100#16 [byte (0x46 + 8 * regField .a)] = true := by decide

theorem witness_StoreRegisterToMemory :
    bytesAt (next [0x70#8]) 0x0100#16 [byte (0x70 + regField .b)] = true ∧
      bytesAt (next [0x77#8]) 0x0100#16 [byte (0x70 + regField .a)] = true := by decide

theorem witness_LoadRegisterImmediate :
    bytesAt (next [0x06#8, 0x00#8]) 0x0100#16 [byte (0x06 + 8 * regField .b), 0x00#8] = true ∧
      bytesAt (next [0x3E#8, 0xFF#8]) 0x0100#16 [byte (0x06 + 8 * regField .a), 0xFF#8] = true := by decide

theorem witness_StoreImmediateToMemory : bytesAt (next [0x36#8, 0xFF#8]) 0x0100#16 [0x36#8, 0xFF#8] = true := by decide

theorem witness_LoadPairImmediate :
    bytesAt (next [0x01#8, 0x00#8, 0xFF#8]) 0x0100#16 [0x01#8, 0x00#8, 0xFF#8] = true ∧
      bytesAt (next [0x11#8, 0xFF#8, 0x00#8]) 0x0100#16 [0x11#8, 0xFF#8, 0x00#8] = true ∧
      bytesAt (next [0x21#8, 0x34#8, 0x12#8]) 0x0100#16 [0x21#8, 0x34#8, 0x12#8] = true := by decide

theorem witness_LoadStackPointerImmediate :
    bytesAt (next [0x31#8, 0x00#8, 0xD0#8]) 0x0100#16 [0x31#8, 0x00#8, 0xD0#8] = true := by decide

theorem witness_AddWritesSumAndFlags :
    bytesAt (next [0x80#8]) 0x0100#16 [byte (0x80 + regField .b)] = true ∧
      bytesAt (next [0x87#8]) 0x0100#16 [byte (0x80 + regField .a)] = true ∧
      bytesAt (next [0x86#8]) 0x0100#16 [0x86#8] = true ∧ bytesAt (next [0xC6#8, 0xFF#8]) 0x0100#16 [0xC6#8, 0xFF#8] = true := by
  decide

theorem witness_AdcWritesSumWithCarryAndFlags :
    bytesAt (next [0x88#8]) 0x0100#16 [byte (0x88 + regField .b)] = true ∧
      bytesAt (next [0x8F#8]) 0x0100#16 [byte (0x88 + regField .a)] = true ∧
      bytesAt (next [0x8E#8]) 0x0100#16 [0x8E#8] = true ∧ bytesAt (next [0xCE#8, 0x00#8]) 0x0100#16 [0xCE#8, 0x00#8] = true := by
  decide

theorem witness_SubWritesDifferenceAndFlags :
    bytesAt (next [0x90#8]) 0x0100#16 [byte (0x90 + regField .b)] = true ∧
      bytesAt (next [0x97#8]) 0x0100#16 [byte (0x90 + regField .a)] = true ∧
      bytesAt (next [0x96#8]) 0x0100#16 [0x96#8] = true ∧ bytesAt (next [0xD6#8, 0xFF#8]) 0x0100#16 [0xD6#8, 0xFF#8] = true := by
  decide

theorem witness_SbcWritesDifferenceWithBorrowAndFlags :
    bytesAt (next [0x98#8]) 0x0100#16 [byte (0x98 + regField .b)] = true ∧
      bytesAt (next [0x9F#8]) 0x0100#16 [byte (0x98 + regField .a)] = true ∧
      bytesAt (next [0x9E#8]) 0x0100#16 [0x9E#8] = true ∧ bytesAt (next [0xDE#8, 0xFF#8]) 0x0100#16 [0xDE#8, 0xFF#8] = true := by
  decide

theorem witness_AddThenAdcIsSixteenBitAddition : ({ State.reset with a := 0xF0#8 }).a = loByte 0x12F0#16 := by decide

theorem witness_SubThenSbcIsSixteenBitSubtraction : ({ State.reset with a := 0x00#8 }).a = loByte 0x1000#16 := by decide

theorem witness_IncWritesSuccessorAndThreeFlags :
    bytesAt (next [0x04#8]) 0x0100#16 [byte (0x04 + 8 * regField .b)] = true ∧
      bytesAt (next [0x3C#8]) 0x0100#16 [byte (0x04 + 8 * regField .a)] = true ∧
      bytesAt (next [0x34#8]) 0x0100#16 [0x34#8] = true := by decide

theorem witness_DecWritesPredecessorAndThreeFlags :
    bytesAt (next [0x05#8]) 0x0100#16 [byte (0x05 + 8 * regField .b)] = true ∧
      bytesAt (next [0x3D#8]) 0x0100#16 [byte (0x05 + 8 * regField .a)] = true ∧
      bytesAt (next [0x35#8]) 0x0100#16 [0x35#8] = true := by decide

theorem witness_AddToHlWritesSumAndThreeFlags :
    bytesAt (next [0x09#8]) 0x0100#16 [byte (0x09 + 16 * pairField .bc)] = true ∧
      bytesAt (next [0x39#8]) 0x0100#16 [byte (0x09 + 16 * pairField .sp)] = true := by decide

theorem witness_RlcaRotatesA : bytesAt (next [0x07#8]) 0x0100#16 [0x07#8] = true := by decide

theorem witness_OperandAddressesWrapAtTheTop :
    let s := withBytes { State.reset with pc := 0xFFFF#16 } 0xFFFF#16 [0x3E#8, 0x77#8]
    let t := withBytes { State.reset with pc := 0xFFFF#16 } 0xFFFF#16 [0x21#8, 0x34#8, 0x12#8]
    s.pc = 0xFFFF#16 ∧ s.memRead 0x0000#16 = 0x77#8 ∧ s.memRead 0xFFFF#16 = 0x3E#8 ∧ t.pc = 0xFFFF#16 ∧
      t.memRead 0x0000#16 = 0x34#8 ∧ t.memRead 0xFFFF#16 = 0x21#8 ∧ t.memRead 0x0001#16 = 0x12#8 := by decide

end Sys2Proof.Tests
end

section
/-!
PROOFS. What one step does, told by the first byte alone: the two ways it faults, and the completion everywhere else.
-/

open Sys2Proof Sys2Proof.Machine Sys2Proof.Rules

namespace Sys2Proof.Machine

/-- The first opcode table has an operation at exactly the bytes that the spec's list (30_encoding.md R68) leaves out. -/
theorem decodeFirst_isSome_eq_not_isUnimplemented :
    ∀ b0 : Byte, b0 ≠ Config.esc → (decodeFirst b0 0#8 0#8).isSome = !isUnimplemented b0 := by decide

theorem fetchInstr_of_esc {s : State} (h : opcodeAt s = Config.esc) :
    s.fetchInstr = .ok (.prefixCb (s.memRead (s.pc + 1#16))) := by
  rw [fetchInstr_eq, show s.memRead s.pc = Config.esc from h, decode_esc]

theorem fetchInstr_of_isUnimplemented {s : State} (h : isUnimplemented (opcodeAt s) = true) :
    s.fetchInstr = .error (.unimplemented (opcodeAt s)) := by
  have hesc : opcodeAt s ≠ Config.esc := fun he => absurd (he ▸ h) (by decide)
  have hnone := decodeFirst_isSome_eq_not_isUnimplemented (opcodeAt s) hesc
  rw [h] at hnone
  rw [fetchInstr_eq]
  exact (decode_eq_error _ _ _ _).mpr ⟨hesc, hnone, rfl⟩

/-- At every other first byte the fetch finds an instruction with an operation, whatever bytes follow. -/
theorem exists_fetchInstr_of_not_isUnimplemented {s : State} (h : isUnimplemented (opcodeAt s) = false)
    (hesc : opcodeAt s ≠ Config.esc) : ∃ i : Instr, s.fetchInstr = .ok i ∧ i.isImplemented = true := by
  have hsome := decodeFirst_isSome_eq_not_isUnimplemented (opcodeAt s) hesc
  rw [h, ← decodeFirst_isSome _ (s.memRead (s.pc + 1#16)) (s.memRead (s.pc + 2#16))] at hsome
  obtain ⟨i, hi⟩ := Option.isSome_iff_exists.mp hsome
  refine ⟨i, ?_, decodeFirst_isImplemented hi⟩
  rw [fetchInstr_eq]
  exact (decode_eq_ok i hesc).mpr hi

theorem step_of_fetchInstr_ok {s : State} {i : Instr} (h : s.fetchInstr = .ok i) : step s = exec i s := by
  simp only [step, State.dispatch, h]

theorem step_of_fetchInstr_error {s : State} {v : Byte} (h : s.fetchInstr = .error (.unimplemented v)) :
    step s = .fault (.unimplementedOpcode v false s.pc) := by
  simp only [step, State.dispatch, h, raiseUnimplemented_eq]

/-- Every operand form but the escape byte ends in `State.complete`, whatever the state. -/
theorem exec_completes {i : Instr} (hi : i.isImplemented = true) (s : State) : ∃ t, exec i s = .next t := by
  cases i.form with
  | nop => exact ⟨_, (exec_nop s).trans (complete_eq s _)⟩
  | rlca => exact ⟨_, (exec_rlca s).trans (rotateA_eq s)⟩
  | prefixCb v => cases hi
  | ldRR dst src => exact ⟨_, (exec_ldRR dst src s).trans (ld8_eq _ _ s)⟩
  | ldRAtHl dst => exact ⟨_, (exec_ldRAtHl dst s).trans (ld8_eq _ _ s)⟩
  | ldAtHlR src => exact ⟨_, (exec_ldAtHlR src s).trans (ld8_eq _ _ s)⟩
  | ldD8 dst v => exact ⟨_, (exec_ldD8 dst v s).trans (ld8_eq _ _ s)⟩
  | ldD16 p v => exact ⟨_, (exec_ldD16 p v s).trans (ld16_eq p v s)⟩
  | addHl p => exact ⟨_, (exec_addHl p s).trans (addToHl_eq p s)⟩
  | inc8 l => exact ⟨_, (exec_inc8 l s).trans (update8_eq _ l s)⟩
  | dec8 l => exact ⟨_, (exec_dec8 l s).trans (update8_eq _ l s)⟩
  | alu op src => exact ⟨_, (exec_alu op src s).trans (alu8_eq op src s)⟩

/-! ### The step, by its first byte -/

theorem step_of_esc {s : State} (h : opcodeAt s = Config.esc) :
    step s = .fault (.unimplementedOpcode (s.memRead (s.pc + 1#16)) true s.pc) := by
  rw [step_of_fetchInstr_ok (fetchInstr_of_esc h), exec_prefixCb, raiseUnimplemented_eq]

theorem step_of_isUnimplemented {s : State} (h : isUnimplemented (opcodeAt s) = true) :
    step s = .fault (.unimplementedOpcode (opcodeAt s) false s.pc) :=
  step_of_fetchInstr_error (fetchInstr_of_isUnimplemented h)

theorem step_completes_of_not_isUnimplemented {s : State} (h : isUnimplemented (opcodeAt s) = false)
    (hesc : opcodeAt s ≠ Config.esc) : ∃ t, step s = .next t := by
  obtain ⟨i, hfetch, hi⟩ := exists_fetchInstr_of_not_isUnimplemented h hesc
  rw [step_of_fetchInstr_ok hfetch]
  exact exec_completes hi s

/-- The three kinds of first byte cover every state, and none of them is refused. -/
theorem step_ne_refused (s : State) (r : Refusal) : step s ≠ .refused r := by
  by_cases hesc : opcodeAt s = Config.esc
  · simp [step_of_esc hesc]
  · cases h : isUnimplemented (opcodeAt s) with
    | true => simp [step_of_isUnimplemented h]
    | false =>
      obtain ⟨t, ht⟩ := step_completes_of_not_isUnimplemented h hesc
      simp [ht]

/-- Settles O12: the first byte alone tells whether a step completes, and no arm of `exec` refuses. -/
theorem stepCompletesAtEveryImplementedByte : Obligations.StepCompletesAtEveryImplementedByte :=
  fun s => ⟨step_ne_refused s, step_completes_of_not_isUnimplemented⟩

end Sys2Proof.Machine
end

section
/-!
PROOFS. What a completed step does to the state, told by its first byte: the registers and flags of 10_state.md.
-/

open Sys2Proof Sys2Proof.Machine Sys2Proof.Rules

namespace Sys2Proof

/-! ### The first byte of an instruction -/

/-- The opcode byte that the map of 30_encoding.md R65 gives an instruction. -/
def Instr.firstByte (i : Instr) : Byte := (encode i).headD 0#8

theorem Instr.firstByte_ldD8 (dst : Loc8) (v w : Byte) : (Instr.ldD8 dst v).firstByte = (Instr.ldD8 dst w).firstByte := by
  rcases dst with r | _
  · cases r <;> rfl
  · rfl

theorem Instr.firstByte_ldD16 (p : Rp) (v w : Word) : (Instr.ldD16 p v).firstByte = (Instr.ldD16 p w).firstByte := by
  cases p <;> rfl

theorem Instr.firstByte_alu_imm (op : AluOp) (v w : Byte) :
    (Instr.alu op (.imm v)).firstByte = (Instr.alu op (.imm w)).firstByte := by
  cases op <;> rfl

/-- The bytes after the first one give operands only. -/
theorem decodeFirst_firstByte_eq (b0 b1 b2 : Byte) :
    (decodeFirst b0 b1 b2).map Instr.firstByte = (decodeFirst b0 0#8 0#8).map Instr.firstByte := by
  unfold decodeFirst
  split
  · split
    · rfl
    · split
      · rfl
      · simp only [Option.map_some, Instr.firstByte_ldD16 _ (mkWord b2 b1) (mkWord 0#8 0#8)]
    · rfl
    · rfl
    · simp only [Option.map_some, Instr.firstByte_ldD8 _ b1 0#8]
    · rfl
    · rfl
  · rfl
  · rfl
  · split
    · simp only [Option.map_some, Instr.firstByte_alu_imm _ b1 0#8]
    · rfl

/-- The decoder (30_encoding.md R64) and the opcode map (R65) agree on the first byte. -/
theorem decodeFirst_zero_firstByte :
    ∀ b0 : Byte, ((decodeFirst b0 0#8 0#8).map Instr.firstByte).getD b0 = b0 := by decide

theorem firstByte_of_decodeFirst {b0 b1 b2 : Byte} {i : Instr} (h : decodeFirst b0 b1 b2 = some i) :
    i.firstByte = b0 := by
  have hz := decodeFirst_zero_firstByte b0
  rwa [← decodeFirst_firstByte_eq b0 b1 b2, h] at hz

namespace Machine

/-! ### The written flags of a routine -/

theorem packedFlags_bit (z n h c : Bool) {i : Nat} (hi : i < 8) :
    (packedFlags z n h c).getLsbD i =
      if i = 7 then z else if i = 6 then n else if i = 5 then h else if i = 4 then c else false := by
  revert z n h c i; decide

/-- The bits of F that an instruction with these flag outcomes writes. -/
def FlagOutcome.written (o : FlagOutcome) : Byte := packedFlags o.z.isSome o.n.isSome o.hf.isSome o.cy.isSome

/-- Two values of F end alike in the written bits, and each keeps its own in the rest. -/
theorem applyFlags_eq_merge (f g : Byte) (o : FlagOutcome) :
    applyFlags g o = (applyFlags f o &&& o.written) ||| (g &&& ~~~o.written) := by
  obtain ⟨z, n, hf, cy⟩ := o
  apply BitVec.eq_of_getLsbD_eq
  intro i hi
  simp only [FlagOutcome.written, BitVec.getLsbD_or, BitVec.getLsbD_and, BitVec.getLsbD_not, applyFlags_bit,
    packedFlags_bit _ _ _ _ hi, hi]
  split_ifs
  · cases z <;> simp [*]
  · cases n <;> simp [*]
  · cases hf <;> simp [*]
  · cases cy <;> simp [*]
  · simp

theorem written_add8 (a v : Byte) (c : Bool) : (add8 a v c).flags.written = 0xF0#8 :=
  show packedFlags true true true true = _ by decide
theorem written_sub8 (a v : Byte) (c : Bool) : (sub8 a v c).flags.written = 0xF0#8 :=
  show packedFlags true true true true = _ by decide
theorem written_add16 (x y : Word) : (add16 x y).flags.written = 0x70#8 :=
  show packedFlags false true true true = _ by decide
theorem written_inc8 (x : Byte) : (inc8 x).flags.written = 0xE0#8 :=
  show packedFlags true true true false = _ by decide
theorem written_dec8 (x : Byte) : (dec8 x).flags.written = 0xE0#8 :=
  show packedFlags true true true false = _ by decide
theorem written_rlc8 (a : Byte) : (rlc8 a).flags.written = 0xF0#8 :=
  show packedFlags true true true true = _ by decide

theorem written_aluRoutine (op : AluOp) (a v : Byte) (cy : Bool) : (aluRoutine op a v cy).flags.written = 0xF0#8 := by
  cases op
  · exact written_add8 ..
  · exact written_add8 ..
  · exact written_sub8 ..
  · exact written_sub8 ..

/-! ### What a completed step does, by its first byte -/

/-- The length (30_encoding.md R70) and the written flags (10_state.md R30) that the spec's tables give a first byte. -/
structure ByteRow (b : Byte) (len : Word) (flags : Byte) : Prop where
  length : lengthOf b = len.toNat
  flags : flagsWritten b = flags

/-- The effects on the state that a step at the first byte `b` can have, one for each shared operation; with each, the
row of `b`, and for the operations with a pair operand whether `b` is the one with SP (10_state.md R24). -/
inductive Effect (b : Byte) : (State → State) → Prop where
  | nop (row : ByteRow b 1#16 0x00#8) : Effect b (fun s => s.incrementPc 1#16)
  | ld8 (dst : Loc8) (src : Src8) (row : ByteRow b (srcLength src) 0x00#8) :
      Effect b (fun s => (s.writeLoc8 dst (s.readSrc8 src)).incrementPc (srcLength src))
  | ld16 (p : Rp) (v : Word) (row : ByteRow b 3#16 0x00#8) (hsp : b = 0x31#8 ↔ p = .sp) :
      Effect b (fun s => (s.writeRp p v).incrementPc 3#16)
  | alu8 (op : AluOp) (src : Src8) (row : ByteRow b (srcLength src) 0xF0#8) :
      Effect b (fun s => ((s.writeReg8 .a (aluRoutine op s.a (s.readSrc8 src) (s.flag .cy)).result).writeFlags
        (aluRoutine op s.a (s.readSrc8 src) (s.flag .cy)).flags).incrementPc (srcLength src))
  | update8 (routine : Byte → AluOut Byte) (loc : Loc8) (row : ByteRow b 1#16 0xE0#8)
      (hw : ∀ x, (routine x).flags.written = 0xE0#8) :
      Effect b (fun s => ((s.writeFlags (routine (s.readLoc8 loc)).flags).writeLoc8 loc
        (routine (s.readLoc8 loc)).result).incrementPc 1#16)
  | addToHl (p : Rp) (row : ByteRow b 1#16 0x70#8) (hsp : p = .sp → b = 0x39#8) :
      Effect b (fun s => ((s.writeRp .hl (add16 s.hl (s.readRp p)).result).writeFlags
        (add16 s.hl (s.readRp p)).flags).incrementPc 1#16)
  | rotateA (row : ByteRow b 1#16 0xF0#8) :
      Effect b (fun s => ((s.writeReg8 .a (rlc8 s.a).result).writeFlags (rlc8 s.a).flags).incrementPc 1#16)

theorem row_ldRR (dst src : Reg8) : ByteRow (Instr.ldRR dst src).firstByte 1#16 0x00#8 := by
  cases dst <;> cases src <;> exact ⟨rfl, rfl⟩

theorem row_ldRAtHl (dst : Reg8) : ByteRow (Instr.ldRAtHl dst).firstByte 1#16 0x00#8 := by
  cases dst <;> exact ⟨rfl, rfl⟩

theorem row_ldAtHlR (src : Reg8) : ByteRow (Instr.ldAtHlR src).firstByte 1#16 0x00#8 := by
  cases src <;> exact ⟨rfl, rfl⟩

theorem row_ldD8 (dst : Loc8) (v : Byte) : ByteRow (Instr.ldD8 dst v).firstByte 2#16 0x00#8 := by
  rcases dst with r | _
  · cases r <;> exact ⟨rfl, rfl⟩
  · exact ⟨rfl, rfl⟩

theorem row_ldD16 (p : Rp) (v : Word) : ByteRow (Instr.ldD16 p v).firstByte 3#16 0x00#8 := by
  cases p <;> exact ⟨rfl, rfl⟩

theorem row_addHl (p : Rp) : ByteRow (Instr.addHl p).firstByte 1#16 0x70#8 := by
  cases p <;> exact ⟨rfl, rfl⟩

theorem row_inc8 (l : Loc8) : ByteRow (Instr.inc8 l).firstByte 1#16 0xE0#8 := by
  rcases l with r | _
  · cases r <;> exact ⟨rfl, rfl⟩
  · exact ⟨rfl, rfl⟩

theorem row_dec8 (l : Loc8) : ByteRow (Instr.dec8 l).firstByte 1#16 0xE0#8 := by
  rcases l with r | _
  · cases r <;> exact ⟨rfl, rfl⟩
  · exact ⟨rfl, rfl⟩

theorem row_alu (op : AluOp) (src : Src8) : ByteRow (Instr.alu op src).firstByte (srcLength src) 0xF0#8 := by
  rcases src with (r | _) | v
  · cases op <;> cases r <;> exact ⟨rfl, rfl⟩
  · cases op <;> exact ⟨rfl, rfl⟩
  · cases op <;> exact ⟨rfl, rfl⟩

theorem firstByte_ldD16_eq_iff (p : Rp) (v : Word) : (Instr.ldD16 p v).firstByte = 0x31#8 ↔ p = .sp := by
  cases p <;> simp [Instr.ldD16, Instr.firstByte, encode]

/-- Every instruction with an operation has one of the effects of its first byte, in every state. -/
theorem exists_effect {i : Instr} (hi : i.isImplemented = true) :
    ∃ eff, Effect i.firstByte eff ∧ ∀ s, exec i s = .next (eff s) := by
  cases i.form with
  | nop => exact ⟨_, .nop ⟨rfl, rfl⟩, fun s => (exec_nop s).trans (complete_eq s _)⟩
  | rlca => exact ⟨_, .rotateA ⟨rfl, rfl⟩, fun s => (exec_rlca s).trans (rotateA_eq s)⟩
  | prefixCb v => cases hi
  | ldRR dst src =>
    exact ⟨_, .ld8 (.reg dst) (.loc (.reg src)) (row_ldRR dst src),
      fun s => (exec_ldRR dst src s).trans (ld8_eq _ _ s)⟩
  | ldRAtHl dst =>
    exact ⟨_, .ld8 (.reg dst) (.loc .atHl) (row_ldRAtHl dst),
      fun s => (exec_ldRAtHl dst s).trans (ld8_eq _ _ s)⟩
  | ldAtHlR src =>
    exact ⟨_, .ld8 .atHl (.loc (.reg src)) (row_ldAtHlR src),
      fun s => (exec_ldAtHlR src s).trans (ld8_eq _ _ s)⟩
  | ldD8 dst v => exact ⟨_, .ld8 dst (.imm v) (row_ldD8 dst v), fun s => (exec_ldD8 dst v s).trans (ld8_eq _ _ s)⟩
  | ldD16 p v =>
    exact ⟨_, .ld16 p v (row_ldD16 p v) (firstByte_ldD16_eq_iff p v), fun s => (exec_ldD16 p v s).trans (ld16_eq p v s)⟩
  | addHl p =>
    exact ⟨_, .addToHl p (row_addHl p) (fun h => by rw [h]; rfl), fun s => (exec_addHl p s).trans (addToHl_eq p s)⟩
  | inc8 l => exact ⟨_, .update8 _ l (row_inc8 l) written_inc8, fun s => (exec_inc8 l s).trans (update8_eq _ l s)⟩
  | dec8 l => exact ⟨_, .update8 _ l (row_dec8 l) written_dec8, fun s => (exec_dec8 l s).trans (update8_eq _ l s)⟩
  | alu op src => exact ⟨_, .alu8 op src (row_alu op src), fun s => (exec_alu op src s).trans (alu8_eq op src s)⟩

/-- A completed step has one of the effects of its first byte, and a state that fetches the same instruction steps by
the same effect. -/
theorem exists_effect_of_step {s t : State} (h : step s = .next t) :
    ∃ eff, Effect (opcodeAt s) eff ∧ t = eff s ∧
      ∀ u : State, u.fetchInstr = s.fetchInstr → step u = .next (eff u) := by
  have hesc : opcodeAt s ≠ Config.esc := fun he => by simp [step_of_esc he] at h
  have himpl : isUnimplemented (opcodeAt s) = false :=
    Bool.eq_false_iff.mpr fun hu => by simp [step_of_isUnimplemented hu] at h
  obtain ⟨i, hfetch, hi⟩ := exists_fetchInstr_of_not_isUnimplemented himpl hesc
  obtain ⟨eff, heff, hexec⟩ := exists_effect hi
  have hbyte : i.firstByte = opcodeAt s := firstByte_of_decodeFirst ((decode_eq_ok i hesc).mp (fetchInstr_eq s ▸ hfetch))
  have hstep (u : State) (hu : u.fetchInstr = s.fetchInstr) : step u = .next (eff u) :=
    (step_of_fetchInstr_ok (hu.trans hfetch)).trans (hexec u)
  exact ⟨eff, hbyte ▸ heff, Host.Outcome.next.inj (h.symm.trans (hstep s rfl)), hstep⟩

/-! ### No effect reads Z, N or Hf -/

@[simp] theorem readLoc8_writeF (s : State) (g : Byte) (l : Loc8) : (s.writeF g).readLoc8 l = s.readLoc8 l := by
  cases l <;> simp

@[simp] theorem readSrc8_writeF (s : State) (g : Byte) (src : Src8) : (s.writeF g).readSrc8 src = s.readSrc8 src := by
  cases src with
  | loc l => exact readLoc8_writeF s g l
  | imm v => rfl

theorem writeReg8_writeF (s : State) (g : Byte) (r : Reg8) (v : Byte) :
    (s.writeF g).writeReg8 r v = (s.writeReg8 r v).writeF g := by
  cases r <;> rfl

theorem writeLoc8_writeF (s : State) (g : Byte) (l : Loc8) (v : Byte) :
    (s.writeF g).writeLoc8 l v = (s.writeLoc8 l v).writeF g := by
  cases l with
  | reg r => exact writeReg8_writeF s g r v
  | atHl => rfl

theorem writeRp_writeF (s : State) (g : Byte) (p : Rp) (v : Word) :
    (s.writeF g).writeRp p v = (s.writeRp p v).writeF g := by
  cases p <;> rfl

theorem writeFlags_writeF (s : State) (g : Byte) (o : FlagOutcome) :
    (s.writeF g).writeFlags o = (s.writeFlags o).writeF (applyFlags g o) := rfl

theorem flag_cy_writeF {s : State} {g : Byte} (hcy : g.getLsbD 4 = s.f.getLsbD 4) : (s.writeF g).flag .cy = s.flag .cy := by
  simp only [flag_cy_eq_bit, writeF_f, hcy]

theorem writeF_incrementPc (s : State) (g : Byte) (n : Word) :
    (s.writeF g).incrementPc n = (s.incrementPc n).writeF g := rfl

theorem merge_none_written (f g : Byte) : (f &&& 0#8) ||| (g &&& ~~~0#8) = g := by
  rw [BitVec.and_zero, BitVec.zero_or, BitVec.not_zero, BitVec.and_allOnes]

/-- From a state with another F but the same Cy, an effect gives the same state but for F, and there the same written
bits beside the unwritten ones of that other F. -/
theorem Effect.of_writeF {b : Byte} {eff : State → State} (h : Effect b eff) {s : State} {g : Byte}
    (hcy : g.getLsbD 4 = s.f.getLsbD 4) :
    eff (s.writeF g) = (eff s).writeF (((eff s).f &&& flagsWritten b) ||| (g &&& ~~~flagsWritten b)) := by
  cases h with
  | nop row => simp only [row.flags, merge_none_written, writeF_incrementPc]
  | ld8 dst src row => simp only [row.flags, merge_none_written, readSrc8_writeF, writeLoc8_writeF, writeF_incrementPc]
  | ld16 p v row => simp only [row.flags, merge_none_written, writeRp_writeF, writeF_incrementPc]
  | alu8 op src row =>
    simp only [row.flags, writeF_a, readSrc8_writeF, flag_cy_writeF hcy, writeReg8_writeF, writeFlags_writeF,
      writeF_incrementPc, incrementPc_f, writeFlags_f, writeReg8_f]
    rw [applyFlags_eq_merge s.f g, written_aluRoutine]
  | update8 routine loc row hw =>
    simp only [row.flags, readLoc8_writeF, writeFlags_writeF, writeLoc8_writeF, writeF_incrementPc, incrementPc_f,
      writeLoc8_f, writeFlags_f]
    rw [applyFlags_eq_merge s.f g, hw]
  | addToHl p row =>
    simp only [row.flags, hl_writeF, readRp_writeF, writeRp_writeF, writeFlags_writeF, writeF_incrementPc, incrementPc_f,
      writeFlags_f, writeRp_f]
    rw [applyFlags_eq_merge s.f g, written_add16]
  | rotateA row =>
    simp only [row.flags, writeF_a, writeReg8_writeF, writeFlags_writeF, writeF_incrementPc, incrementPc_f, writeFlags_f,
      writeReg8_f]
    rw [applyFlags_eq_merge s.f g, written_rlc8]

/-- Settles O17: F is not fetched, so both states step by one effect. -/
theorem noInstructionReadsZNOrHf : Obligations.NoInstructionReadsZNOrHf := by
  intro s t g hcy h
  obtain ⟨eff, heff, rfl, hsame⟩ := exists_effect_of_step h
  exact (hsame (s.writeF g) rfl).trans (congrArg _ (heff.of_writeF hcy))

/-! ### The flags that a step leaves -/

/-- The case of O17 where F is the state's own: a step keeps the bits of F that its opcode does not write. -/
theorem step_f_eq_merge {s t : State} (h : step s = .next t) :
    t.f = (t.f &&& flagsWritten (opcodeAt s)) ||| (s.f &&& ~~~flagsWritten (opcodeAt s)) :=
  congrArg State.f (Host.Outcome.next.inj (h.symm.trans (noInstructionReadsZNOrHf s t s.f rfl h)))

theorem step_f_bit_kept {s t : State} (h : step s = .next t) {k : Nat} (hk : k < 8)
    (hw : (flagsWritten (opcodeAt s)).getLsbD k = false) : t.f.getLsbD k = s.f.getLsbD k := by
  rw [step_f_eq_merge h, BitVec.getLsbD_or, BitVec.getLsbD_and, BitVec.getLsbD_and, BitVec.getLsbD_not, hw]
  simp only [hk, Bool.and_false, Bool.not_false, decide_true, Bool.and_true, Bool.false_or]

theorem flagsWritten_of_writesNoFlag {b : Byte} (h : writesNoFlag b = true) : flagsWritten b = 0x00#8 := if_pos h

theorem flagsWritten_cy_of_isIncDec {b : Byte} (h : isIncDec b = true) : (flagsWritten b).getLsbD 4 = false := by
  revert b; decide

theorem flagsWritten_z_of_isAddHl {b : Byte} (h : isAddHl b = true) : (flagsWritten b).getLsbD 7 = false := by
  revert b; decide

theorem flagsWritten_low (b : Byte) {k : Nat} (hk : k < 4) : (flagsWritten b).getLsbD k = false := by
  unfold flagsWritten
  split_ifs <;> interval_cases k <;> rfl

/-- The low nibble is told by bits 3 to 0. -/
theorem and_low_eq_of_bits {f g : Byte} (h : ∀ k < 4, f.getLsbD k = g.getLsbD k) : f &&& 0x0F#8 = g &&& 0x0F#8 := by
  apply BitVec.eq_of_getLsbD_eq
  intro k hk
  rw [BitVec.getLsbD_and, BitVec.getLsbD_and]
  rcases Nat.lt_or_ge k 4 with h4 | h4
  · rw [h k h4]
  · have hmask : (0x0F#8).getLsbD k = false := by interval_cases k <;> rfl
    rw [hmask, Bool.and_false, Bool.and_false]

theorem step_keeps_lowNibble {s t : State} (h : step s = .next t) : lowNibbleKept s t :=
  and_low_eq_of_bits fun _ hk => step_f_bit_kept h (by omega) (flagsWritten_low _ hk)

theorem step_keeps_f_of_writesNoFlag {s t : State} (h : step s = .next t) (hb : writesNoFlag (opcodeAt s) = true) :
    t.f = s.f := by
  rw [step_f_eq_merge h, flagsWritten_of_writesNoFlag hb, merge_none_written]

/-- Settles O20: by the table of R30 the opcodes named do not write these bits. -/
theorem unwrittenFlagsStayAsTabled : Obligations.UnwrittenFlagsStayAsTabled := fun _ _ h =>
  ⟨step_keeps_f_of_writesNoFlag h, fun hb => step_f_bit_kept h (by decide) (flagsWritten_cy_of_isIncDec hb),
    fun hb => step_f_bit_kept h (by decide) (flagsWritten_z_of_isAddHl hb), step_keeps_lowNibble h⟩

/-! ### The invariant -/

theorem Effect.keeps_wf {b : Byte} {eff : State → State} (h : Effect b eff) {s : State} (hm : Memory.wf s.mem = true) :
    Memory.wf (eff s).mem = true := by
  cases h with
  | nop => exact hm
  | ld8 dst src => exact wf_writeLoc8 dst _ hm
  | ld16 p v => simpa using hm
  | alu8 op src => exact hm
  | update8 routine loc => exact wf_writeLoc8 loc _ hm
  | addToHl p => exact hm
  | rotateA => exact hm

/-- Settles O3: no opcode writes the low nibble of F, and every store keeps the canonical form. -/
theorem stepKeepsInvariant : Obligations.StepKeepsInvariant := by
  rintro s t ⟨hlow, hwf⟩ h
  obtain ⟨eff, heff, ht, -⟩ := exists_effect_of_step h
  exact ⟨(step_keeps_lowNibble h).trans hlow, ht ▸ heff.keeps_wf hwf⟩

/-! ### The program counter -/

theorem ByteRow.toNat_add_len {b : Byte} {len : Word} {flags : Byte} (row : ByteRow b len flags) (pc : Word) :
    (pc + len).toNat = (pc.toNat + lengthOf b) % 65536 := by
  rw [row.length, BitVec.toNat_add]

theorem Effect.pc_toNat {b : Byte} {eff : State → State} (h : Effect b eff) (s : State) :
    (eff s).pc.toNat = (s.pc.toNat + lengthOf b) % 65536 := by
  cases h with
  | nop row => exact row.toNat_add_len s.pc
  | ld8 dst src row => rw [incrementPc_pc, writeLoc8_pc, row.toNat_add_len]
  | ld16 p v row => rw [incrementPc_pc, writeRp_pc, row.toNat_add_len]
  | alu8 op src row => exact row.toNat_add_len s.pc
  | update8 routine loc row => rw [incrementPc_pc, writeLoc8_pc, writeFlags_pc, row.toNat_add_len]
  | addToHl p row => exact row.toNat_add_len s.pc
  | rotateA row => exact row.toNat_add_len s.pc

/-- Settles O13: the effect's advance of PC is the length in the first byte's row. -/
theorem completedStepAdvancesPcByLength : Obligations.CompletedStepAdvancesPcByLength := by
  intro s t h
  obtain ⟨eff, heff, rfl, -⟩ := exists_effect_of_step h
  exact heff.pc_toNat s

/-! ### The stack pointer -/

@[simp] theorem readLoc8_writeSp (s : State) (v : Word) (l : Loc8) : (s.writeSp v).readLoc8 l = s.readLoc8 l := by
  cases l <;> simp

@[simp] theorem readSrc8_writeSp (s : State) (v : Word) (src : Src8) : (s.writeSp v).readSrc8 src = s.readSrc8 src := by
  cases src <;> simp

theorem readRp_writeSp {p : Rp} (hp : p ≠ .sp) (s : State) (v : Word) : (s.writeSp v).readRp p = s.readRp p := by
  cases p with
  | sp => exact absurd rfl hp
  | _ => rfl

theorem sp_writeRp {p : Rp} (hp : p ≠ .sp) (s : State) (v : Word) : (s.writeRp p v).sp = s.sp := by
  cases p with
  | sp => exact absurd rfl hp
  | _ => rfl

theorem writeReg8_writeSp (s : State) (v : Word) (r : Reg8) (w : Byte) :
    (s.writeSp v).writeReg8 r w = (s.writeReg8 r w).writeSp v := by
  cases r <;> rfl

theorem writeLoc8_writeSp (s : State) (v : Word) (l : Loc8) (w : Byte) :
    (s.writeSp v).writeLoc8 l w = (s.writeLoc8 l w).writeSp v := by
  cases l with
  | reg r => exact writeReg8_writeSp s v r w
  | atHl => rfl

theorem writeRp_writeSp {p : Rp} (hp : p ≠ .sp) (s : State) (v w : Word) :
    (s.writeSp v).writeRp p w = (s.writeRp p w).writeSp v := by
  cases p with
  | sp => exact absurd rfl hp
  | _ => rfl

theorem writeFlags_writeSp (s : State) (v : Word) (o : FlagOutcome) :
    (s.writeSp v).writeFlags o = (s.writeFlags o).writeSp v := rfl

theorem flag_writeSp (s : State) (v : Word) (x : Flag) : (s.writeSp v).flag x = s.flag x := rfl

theorem writeSp_incrementPc (s : State) (v n : Word) : (s.writeSp v).incrementPc n = (s.incrementPc n).writeSp v := rfl

theorem srcLength_ne_three (src : Src8) : srcLength src ≠ 3#16 := by
  cases src with
  | loc l => exact (by decide : 1#16 ≠ 3#16)
  | imm v => exact (by decide : 2#16 ≠ 3#16)

/-- LD SP,d16 is told apart by its length. -/
theorem ByteRow.ne_ldSp {b : Byte} {len : Word} {flags : Byte} (row : ByteRow b len flags) (hlen : len ≠ 3#16) :
    b ≠ 0x31#8 := by
  rintro rfl
  exact hlen (BitVec.eq_of_toNat_eq row.length.symm)

theorem Effect.keeps_sp {b : Byte} {eff : State → State} (h : Effect b eff) (hb : b ≠ 0x31#8) (s : State) :
    (eff s).sp = s.sp := by
  cases h with
  | nop => rfl
  | ld8 dst src => simp
  | ld16 p v row hsp => simpa using sp_writeRp (mt hsp.mpr hb) s v
  | alu8 op src => rfl
  | update8 routine loc => simp
  | addToHl p => rfl
  | rotateA => rfl

/-- From a state with another SP, an effect other than that of ADD HL,SP gives the same state but for SP. -/
theorem Effect.of_writeSp {b : Byte} {eff : State → State} (h : Effect b eff) (hb : b ≠ 0x39#8) (s : State) (v : Word) :
    eff (s.writeSp v) = (eff s).writeSp (if b = 0x31#8 then (eff s).sp else v) := by
  cases h with
  | nop row => simp only [row.ne_ldSp (by decide), if_false, writeSp_incrementPc]
  | ld8 dst src row =>
    simp only [row.ne_ldSp (srcLength_ne_three src), if_false, readSrc8_writeSp, writeLoc8_writeSp, writeSp_incrementPc]
  | ld16 p w row hsp =>
    by_cases hp : p = .sp
    · rw [if_pos (hsp.mpr hp), hp]; rfl
    · simp only [mt hsp.mp hp, if_false, writeRp_writeSp hp, writeSp_incrementPc]
  | alu8 op src row =>
    simp only [row.ne_ldSp (srcLength_ne_three src), if_false, readSrc8_writeSp, flag_writeSp, writeReg8_writeSp,
      writeFlags_writeSp, writeSp_incrementPc, writeSp_a]
  | update8 routine loc row =>
    simp only [row.ne_ldSp (by decide), if_false, readLoc8_writeSp, writeFlags_writeSp, writeLoc8_writeSp,
      writeSp_incrementPc]
  | addToHl p row hsp =>
    simp only [row.ne_ldSp (by decide), if_false, hl_writeSp, readRp_writeSp (mt hsp hb),
      writeRp_writeSp (p := .hl) (by decide), writeFlags_writeSp, writeSp_incrementPc]
  | rotateA row =>
    simp only [row.ne_ldSp (by decide), if_false, writeSp_a, writeReg8_writeSp, writeFlags_writeSp, writeSp_incrementPc]

/-- Settles O18: SP is not fetched, so both states step by one effect. -/
theorem spIsUsedByTwoInstructionsOnly : Obligations.SpIsUsedByTwoInstructionsOnly := by
  intro s t h
  obtain ⟨eff, heff, rfl, hsame⟩ := exists_effect_of_step h
  refine ⟨fun hb => heff.keeps_sp hb s, fun hb v => ?_⟩
  exact (hsame (s.writeSp v) rfl).trans (congrArg _ (heff.of_writeSp hb s v))

end Machine
end Sys2Proof
end

section
/-!
PROOFS. The register file by itself: reset, pair views, register writes, flag accessors, `increment_pc`, and the one
canonical form of memory.
-/

open Sys2Proof Sys2Proof.Machine Sys2Proof.Rules

namespace Sys2Proof

/-! ### The halves of a word, as numbers -/

theorem hiByte_eq_byte (v : Word) : hiByte v = byte (v.toNat / 256) := by
  apply BitVec.eq_of_toNat_eq
  simp only [hiByte, byte, BitVec.extractLsb'_toNat, BitVec.toNat_ofNat, Nat.shiftRight_eq_div_pow]

theorem loByte_eq_byte (v : Word) : loByte v = byte v.toNat := by
  apply BitVec.eq_of_toNat_eq
  simp only [loByte, byte, BitVec.extractLsb'_toNat, BitVec.toNat_ofNat, Nat.shiftRight_zero]

theorem highNibble_toNat : ∀ f : Byte, (f &&& 0xF0#8).toNat = f.toNat / 16 * 16 := by decide

theorem mkWord_and (a b c d : Byte) : mkWord a b &&& mkWord c d = mkWord (a &&& c) (b &&& d) :=
  BitVec.and_append

namespace Machine

/-! ### Reset -/

/-- Settles O1, field by field; the empty memory reads as 0x00 everywhere. -/
theorem resetLeavesPostBootValues : Obligations.ResetLeavesPostBootValues :=
  ⟨rfl, rfl, rfl, rfl, rfl, rfl, rfl, rfl, rfl, rfl, fun _ => rfl, ⟨rfl, rfl, rfl, rfl⟩, rfl, rfl, rfl, rfl⟩

/-- Settles O2: F is 0xF0 and memory is empty. -/
theorem resetMeetsInvariant : Obligations.ResetMeetsInvariant := ⟨rfl, Memory.wf_reset⟩

/-! ### Pair views and pair writes -/

theorem af_toNat (s : State) : s.af.toNat = s.a.toNat * 256 + s.f.toNat / 16 * 16 := by
  rw [State.af, mkWord_toNat, highNibble_toNat]

theorem readRp_writeRp_same (s : State) (p : Rp) (v : Word) : (s.writeRp p v).readRp p = v := by
  cases p with
  | bc => exact mkWord_hiByte_loByte v
  | de => exact mkWord_hiByte_loByte v
  | hl => exact mkWord_hiByte_loByte v
  | sp => rfl

theorem af_writeAf (s : State) (v : Word) : (s.writeAf v).af = v &&& 0xFFF0#16 := by
  have hff : hiByte v &&& 0xFF#8 = hiByte v := BitVec.and_allOnes
  calc (s.writeAf v).af = mkWord (hiByte v &&& 0xFF#8) (loByte v &&& 0xF0#8) := by
        simp [hff, State.af, State.writeAf, BitVec.and_assoc]
    _ = mkWord (hiByte v) (loByte v) &&& mkWord 0xFF#8 0xF0#8 := (mkWord_and ..).symm
    _ = v &&& 0xFFF0#16 := by rw [mkWord_hiByte_loByte]; rfl

theorem loByte_and_highNibble (v : Word) : loByte v &&& 0xF0#8 = byte (v.toNat % 256 / 16 * 16) := by
  apply BitVec.eq_of_toNat_eq
  rw [highNibble_toNat, loByte_eq_byte]
  simp only [byte, BitVec.toNat_ofNat]
  omega

/-- Settles O26: a pair is `mkWord` of its registers, and a write stores the word's two halves. -/
theorem pairViewsAndPairWrites : Obligations.PairViewsAndPairWrites := by
  intro s v
  refine ⟨mkWord_toNat .., mkWord_toNat .., mkWord_toNat .., af_toNat s, ?_, ?_, ?_, ?_,
    fun p => readRp_writeRp_same s p v, af_writeAf s v⟩
  · rw [← hiByte_eq_byte, ← loByte_eq_byte]; rfl
  · rw [← hiByte_eq_byte, ← loByte_eq_byte]; rfl
  · rw [← hiByte_eq_byte, ← loByte_eq_byte]; rfl
  · rw [← hiByte_eq_byte, ← loByte_and_highNibble]; rfl

/-! ### Register writes -/

/-- Settles O27. -/
theorem registerWritesAreIndependent : Obligations.RegisterWritesAreIndependent := by
  intro s r v
  have hset : registerSet s (s.writeReg8 r v) r v :=
    ⟨by rw [readReg8_writeReg8, if_pos rfl], fun x hx => by rw [readReg8_writeReg8, if_neg hx]⟩
  exact ⟨hset, writeReg8_f s r v, writeReg8_sp s r v, writeReg8_pc s r v, writeReg8_mem s r v⟩

/-! ### Flag accessors -/

theorem Flag.bit_injective {x y : Flag} (h : x.bit = y.bit) : x = y := by
  revert h; cases x <;> cases y <;> decide

theorem flag_eq_bit (s : State) (x : Flag) : s.flag x = s.f.getLsbD x.bit := getFlag_eq_bit s.f x

/-- A getter after a setter: the flag that was set, or any other. -/
theorem flag_setFlag (s : State) (x y : Flag) (v : Bool) : (s.setFlag x v).flag y = if y = x then v else s.flag y := by
  rw [flag_eq_bit, setFlag_f, putFlag_bit, ← flag_eq_bit]
  exact if_congr ⟨Flag.bit_injective, congrArg Flag.bit⟩ rfl rfl

theorem getLsbD_of_and_low_eq_zero {f : Byte} (h : f &&& 0x0F#8 = 0x00#8) {k : Nat} (hk : k < 4) :
    f.getLsbD k = false := by
  have hbit := congrArg (BitVec.getLsbD · k) h
  have hmask : (0x0F#8).getLsbD k = true := by interval_cases k <;> rfl
  simpa only [BitVec.getLsbD_and, hmask, Bool.and_true, BitVec.getLsbD_zero] using hbit

/-- The four setter calls leave the packed form of 10_state.md R29. -/
theorem putFlag_four_eq_packedFlags {f : Byte} (h : f &&& 0x0F#8 = 0x00#8) (z n hf c : Bool) :
    putFlag (putFlag (putFlag (putFlag f .z z) .n n) .hf hf) .cy c = packedFlags z n hf c := by
  apply BitVec.eq_of_getLsbD_eq
  intro k hk
  simp only [putFlag_bit, Flag.bit, packedFlags_bit _ _ _ _ hk]
  rcases Nat.lt_or_ge k 4 with h4 | h4
  · rw [getLsbD_of_and_low_eq_zero h h4]
    interval_cases k <;> rfl
  · interval_cases k <;> rfl

/-- Settles O28. -/
theorem flagAccessorsTouchOneBit : Obligations.FlagAccessorsTouchOneBit := by
  intro s
  refine ⟨⟨flag_eq_bit s .z, flag_eq_bit s .n, flag_eq_bit s .hf, flag_eq_bit s .cy⟩, fun x v => ?_,
    fun z n h c hlow => ?_⟩
  · exact ⟨by rw [flag_setFlag, if_pos rfl], fun y hy => by rw [flag_setFlag, if_neg hy], putFlag_low s.f x v, rfl⟩
  · exact putFlag_four_eq_packedFlags hlow z n h c

/-! ### The program counter -/

/-- Settles O29. -/
theorem incrementPcWraps : Obligations.IncrementPcWraps := fun s delta =>
  ⟨BitVec.toNat_add s.pc delta, rfl⟩

/-! ### The canonical form of memory -/

/-- The first listed byte is found where it is listed. -/
theorem Memory.read_cons_self (k : Nat) (v : Byte) (m : Memory) : Memory.read ((k, v) :: m) k = v := if_pos rfl

theorem Memory.read_cons_of_ne {k x : Nat} (hx : x ≠ k) (v : Byte) (m : Memory) :
    Memory.read ((k, v) :: m) x = Memory.read m x := if_neg hx

/-- Where one canonical memory lists an entry, another that reads alike has no entry above it: otherwise that address
would read as unlisted. -/
theorem Memory.le_of_read_eq {lo k j : Nat} {v w : Byte} {m m' : Memory} (hm : Memory.wfFrom lo ((k, v) :: m) = true)
    (hm' : Memory.wfFrom lo ((j, w) :: m') = true)
    (h : ∀ x, Memory.read ((k, v) :: m) x = Memory.read ((j, w) :: m') x) : j ≤ k := by
  obtain ⟨-, -, hv, -⟩ := Memory.wfFrom_cons.1 hm
  obtain ⟨-, hj, hw, hrest⟩ := Memory.wfFrom_cons.1 hm'
  by_contra! hlt
  have hfrom : Memory.wfFrom j ((j, w) :: m') = true := Memory.wfFrom_cons.2 ⟨le_rfl, hj, hw, hrest⟩
  exact hv ((Memory.read_cons_self k v m).symm.trans ((h k).trans (Memory.read_below hfrom hlt)))

/-- Canonical memories that read alike have the same first entry, and so on down the list. -/
theorem Memory.eq_of_read_eq {m m' : Memory} {lo : Nat} (hm : Memory.wfFrom lo m = true)
    (hm' : Memory.wfFrom lo m' = true) (h : ∀ x, Memory.read m x = Memory.read m' x) : m = m' := by
  induction m generalizing m' lo with
  | nil =>
    cases m' with
    | nil => rfl
    | cons cell m' =>
      obtain ⟨j, w⟩ := cell
      obtain ⟨-, -, hw, -⟩ := Memory.wfFrom_cons.1 hm'
      exact absurd ((Memory.read_cons_self j w m').symm.trans (h j).symm) hw
  | cons cell m ih =>
    obtain ⟨k, v⟩ := cell
    cases m' with
    | nil =>
      obtain ⟨-, -, hv, -⟩ := Memory.wfFrom_cons.1 hm
      exact absurd ((Memory.read_cons_self k v m).symm.trans (h k)) hv
    | cons cell' m' =>
      obtain ⟨j, w⟩ := cell'
      obtain rfl : j = k :=
        le_antisymm (Memory.le_of_read_eq hm hm' h) (Memory.le_of_read_eq hm' hm fun x => (h x).symm)
      obtain rfl : v = w := by simpa only [Memory.read_cons_self] using h j
      obtain ⟨-, -, -, hrest⟩ := Memory.wfFrom_cons.1 hm
      obtain ⟨-, -, -, hrest'⟩ := Memory.wfFrom_cons.1 hm'
      have htail (x : Nat) : Memory.read m x = Memory.read m' x := by
        by_cases hx : x = j
        · rw [hx, Memory.read_below hrest j.lt_succ_self, Memory.read_below hrest' j.lt_succ_self]
        · simpa only [Memory.read_cons_of_ne hx] using h x
      rw [ih hrest hrest' htail]

/-- Settles O24: outside the address space both memories read as unlisted, inside as supposed. -/
theorem canonicalMemoryIsDeterminedByReads : Obligations.CanonicalMemoryIsDeterminedByReads := by
  intro s t hs ht hread
  refine Memory.eq_of_read_eq hs ht fun x => ?_
  rcases Nat.lt_or_ge x 65536 with hx | hx
  · have hword := hread (BitVec.ofNat 16 x)
    rw [State.memRead, State.memRead, BitVec.toNat_ofNat, Nat.mod_eq_of_lt hx] at hword
    exact hword.symm
  · rw [Memory.read_above hs hx, Memory.read_above ht hx]

end Machine
end Sys2Proof
end

section
/-!
PROOFS. Memory (20_memory.md): the one byte that a write changes, the frame of a step, and stores and fetches that meet.
-/

open Sys2Proof Sys2Proof.Machine Sys2Proof.Rules

namespace Sys2Proof

/-! ### First bytes, and words of the stores and loads used here -/

/-- The decoder and the opcode map agree on the first byte, the escape byte's among them. -/
theorem firstByte_of_decode {b0 b1 b2 : Byte} {i : Instr} (h : decode b0 b1 b2 = .ok i) : i.firstByte = b0 := by
  by_cases hesc : b0 = Config.esc
  · subst hesc
    cases (decode_esc b1 b2).symm.trans h
    rfl
  · exact firstByte_of_decodeFirst ((decode_eq_ok i hesc).mp h)

theorem decode_ldAtHlR (r : Reg8) (b1 b2 : Byte) : decode (byte (0x70 + regField r)) b1 b2 = .ok (.ldAtHlR r) := by
  cases r <;> rfl

theorem decode_incAtHl (b1 b2 : Byte) : decode 0x34#8 b1 b2 = .ok (.inc8 .atHl) := rfl

theorem decode_ldAD8 (v b2 : Byte) : decode 0x3E#8 v b2 = .ok (.ldD8 (.reg .a) v) := rfl

theorem decode_ldHlD16 (lo hi : Byte) : decode 0x21#8 lo hi = .ok (.ldD16 .hl (mkWord hi lo)) := rfl

namespace Machine

/-! ### A single write -/

/-- Settles O23: the law of a read after a write holds in every memory. -/
theorem memWriteChangesOneByte : Obligations.MemWriteChangesOneByte := fun s addr x v =>
  ⟨memRead_memWrite s addr v x, rfl⟩

theorem memoryKeptBut_memWrite (s : State) (addr : Word) (v : Byte) : memoryKeptBut s (s.memWrite addr v) addr :=
  fun x hx => (memRead_memWrite s addr v x).trans (if_neg hx)

/-! ### The frame of a step -/

/-- The first byte is one of the opcodes that store a byte of memory. -/
abbrev IsStoreByte (b : Byte) : Prop := storeBytesOfTable.contains b.toNat = true

/-- What an instruction with the first byte `b` may do to memory: nothing, or, where `b` is a store's, change the byte
at the HL of its start. -/
def MemoryFrame (b : Byte) (s t : State) : Prop := memoryKept s t ∨ (IsStoreByte b ∧ memoryKeptBut s t s.hl)

theorem MemoryFrame.keptBut {b : Byte} {s t : State} (h : MemoryFrame b s t) : memoryKeptBut s t s.hl := by
  rcases h with hkept | ⟨-, hbut⟩
  · exact fun x _ => hkept x
  · exact hbut

theorem MemoryFrame.kept {b : Byte} {s t : State} (h : MemoryFrame b s t)
    (hb : storeBytesOfTable.contains b.toNat = false) : memoryKept s t := by
  rcases h with hkept | ⟨hstore, -⟩
  · exact hkept
  · exact absurd hstore (Bool.eq_false_iff.mp hb)

/-- Only the destination `(HL)` of an 8-bit write is in memory. -/
theorem MemoryFrame.of_writeLoc8 {b : Byte} {l : Loc8} (hb : l = .atHl → IsStoreByte b) (s : State) (v : Byte) (n : Word) :
    MemoryFrame b s ((s.writeLoc8 l v).incrementPc n) := by
  cases l with
  | reg r => exact .inl (memRead_writeReg8 s r v)
  | atHl => exact .inr ⟨hb rfl, memoryKeptBut_memWrite s s.hl v⟩

theorem isStoreByte_ldAtHlR (src : Reg8) : IsStoreByte (Instr.ldAtHlR src).firstByte := by
  cases src <;> rfl

/-- Every operand form meets the frame of its first byte.  The flags that INC and DEC write before their store change
neither HL nor memory. -/
theorem exec_memoryFrame {i : Instr} (hi : i.isImplemented = true) (s : State) :
    ∃ t, exec i s = .next t ∧ MemoryFrame i.firstByte s t := by
  cases i.form with
  | nop => exact ⟨_, (exec_nop s).trans (complete_eq s _), .inl fun _ => rfl⟩
  | rlca => exact ⟨_, (exec_rlca s).trans (rotateA_eq s), .inl fun _ => rfl⟩
  | prefixCb v => cases hi
  | ldRR dst src =>
    exact ⟨_, (exec_ldRR dst src s).trans (ld8_eq _ _ s), .inl (memRead_writeReg8 s dst _)⟩
  | ldRAtHl dst =>
    exact ⟨_, (exec_ldRAtHl dst s).trans (ld8_eq _ _ s), .inl (memRead_writeReg8 s dst _)⟩
  | ldAtHlR src =>
    exact ⟨_, (exec_ldAtHlR src s).trans (ld8_eq _ _ s), .of_writeLoc8 (fun _ => isStoreByte_ldAtHlR src) s _ _⟩
  | ldD8 dst v =>
    exact ⟨_, (exec_ldD8 dst v s).trans (ld8_eq _ _ s), .of_writeLoc8 (by rintro rfl; rfl) s _ _⟩
  | ldD16 p v => exact ⟨_, (exec_ldD16 p v s).trans (ld16_eq p v s), .inl (memRead_writeRp s p v)⟩
  | addHl p => exact ⟨_, (exec_addHl p s).trans (addToHl_eq p s), .inl fun _ => rfl⟩
  | inc8 l =>
    exact ⟨_, (exec_inc8 l s).trans (update8_eq _ l s), .of_writeLoc8 (by rintro rfl; rfl) (s.writeFlags _) _ _⟩
  | dec8 l =>
    exact ⟨_, (exec_dec8 l s).trans (update8_eq _ l s), .of_writeLoc8 (by rintro rfl; rfl) (s.writeFlags _) _ _⟩
  | alu op src => exact ⟨_, (exec_alu op src s).trans (alu8_eq op src s), .inl fun _ => rfl⟩

theorem isImplemented_of_exec {i : Instr} {s t : State} (h : exec i s = .next t) : i.isImplemented = true := by
  cases i with
  | prefixCb v => cases h
  | _ => rfl

/-- A completed step is the operation of an instruction whose first byte stands at PC. -/
theorem exists_exec_of_step {s t : State} (h : step s = .next t) :
    ∃ i : Instr, i.firstByte = opcodeAt s ∧ exec i s = .next t := by
  cases hfetch : s.fetchInstr with
  | error x =>
    obtain ⟨v⟩ := x
    cases (step_of_fetchInstr_error hfetch).symm.trans h
  | ok i =>
    exact ⟨i, firstByte_of_decode ((fetchInstr_eq s).symm.trans hfetch), (step_of_fetchInstr_ok hfetch).symm.trans h⟩

theorem step_memoryFrame {s t : State} (h : step s = .next t) : MemoryFrame (opcodeAt s) s t := by
  obtain ⟨i, hbyte, hexec⟩ := exists_exec_of_step h
  obtain ⟨t', ht', hframe⟩ := exec_memoryFrame (isImplemented_of_exec hexec) s
  obtain rfl : t' = t := Host.Outcome.next.inj (ht'.symm.trans hexec)
  exact hbyte ▸ hframe

/-- Settles O19: both clauses are the frame of the step's first byte. -/
theorem memoryChangesOnlyAtHlDestinations : Obligations.MemoryChangesOnlyAtHlDestinations := fun _ _ h =>
  ⟨(step_memoryFrame h).keptBut, (step_memoryFrame h).kept⟩

/-! ### Stores that meet the fetch -/

theorem opcodeAt_of_bytesAt {s : State} {b : Byte} (h : bytesAt s s.pc [b] = true) : opcodeAt s = b := by
  simpa [bytesAt, opcodeAt] using h

/-- A step runs what the byte at PC decodes to when the bytes after it do not matter. -/
theorem step_of_opcodeAt {s : State} {b : Byte} {i : Instr} (h : opcodeAt s = b)
    (hdec : ∀ b1 b2, decode b b1 b2 = .ok i) : step s = exec i s :=
  step_of_fetchInstr_ok (by rw [fetchInstr_eq, show s.memRead s.pc = b from h, hdec])

/-- After a store onto the byte after a one-byte instruction, the next fetch reads the stored byte and the two old
bytes that follow it. -/
theorem fetchInstr_after_store_onto_next (s : State) (v : Byte) :
    ((s.memWrite (s.pc + 1#16) v).incrementPc 1#16).fetchInstr =
      decode v (s.memRead (s.pc + 2#16)) (s.memRead (s.pc + 3#16)) := by
  have h2 : s.pc + 1#16 + 1#16 = s.pc + 2#16 := by bv_omega
  have h3 : s.pc + 1#16 + 2#16 = s.pc + 3#16 := by bv_omega
  have h21 : s.pc + 2#16 ≠ s.pc + 1#16 := by bv_omega
  have h31 : s.pc + 3#16 ≠ s.pc + 1#16 := by bv_omega
  simp only [fetchInstr_eq, incrementPc_pc, memWrite_pc, memRead_incrementPc, memRead_memWrite, h2, h3, h21, h31, if_true,
    if_false]

/-- Settles O21: the byte that LD (HL),r stores at PC + 1 is the first one of the next fetch. -/
theorem storeIsSeenByTheNextFetch : Obligations.StoreIsSeenByTheNextFetch := by
  intro s r i hbytes hhl hdec
  have hstep : step s = .next ((s.memWrite s.hl (s.readReg8 r)).incrementPc 1#16) := by
    rw [step_of_opcodeAt (opcodeAt_of_bytesAt hbytes) (decode_ldAtHlR r), exec_ldAtHlR, ld8_eq]; rfl
  rw [hhl] at hstep
  exact ⟨_, hstep, step_of_fetchInstr_ok ((fetchInstr_after_store_onto_next s _).trans hdec)⟩

/-- Settles O22: the operand read at HL = PC is the opcode 0x34 itself, and the store puts its successor there. -/
theorem incrementOfItsOwnOpcodeByte : Obligations.IncrementOfItsOwnOpcodeByte := by
  intro s hbytes hhl
  have hop := opcodeAt_of_bytesAt hbytes
  have hloc : s.readLoc8 .atHl = 0x34#8 := by rw [readLoc8_atHl, hhl]; exact hop
  have hstep : step s = .next (((s.writeFlags (inc8 0x34#8).flags).memWrite s.pc 0x35#8).incrementPc 1#16) := by
    rw [step_of_opcodeAt hop decode_incAtHl, exec_inc8, update8_eq, hloc, writeLoc8_atHl, hl_writeFlags, hhl]; rfl
  refine ⟨_, hstep, ?_, rfl, hhl ▸ (step_memoryFrame hstep).keptBut⟩
  rw [memRead_incrementPc, memRead_memWrite, if_pos rfl]

/-! ### The fetch at the top of memory -/

/-- The three addresses of a fetch at 0xFFFF wrap (20_memory.md R49). -/
theorem fetchInstr_at_top {s : State} (hpc : s.pc = 0xFFFF#16) :
    s.fetchInstr = decode (s.memRead 0xFFFF#16) (s.memRead 0x0000#16) (s.memRead 0x0001#16) := by
  rw [fetchInstr_eq, hpc]; rfl

/-- Settles O49: the operand bytes come from the wrapped addresses, and so does the next PC. -/
theorem operandAddressesWrapAtTheTop : Obligations.OperandAddressesWrapAtTheTop := by
  intro s hi lo hpc hlo
  refine ⟨fun hop => ?_, fun hop hhi => ?_⟩
  · have hstep := step_of_fetchInstr_ok ((fetchInstr_at_top hpc).trans (by rw [hop, decode_ldAD8]))
    rw [exec_ldD8, ld8_eq, hlo] at hstep
    exact ⟨_, hstep, rfl, congrArg (· + 2#16) hpc⟩
  · have hstep := step_of_fetchInstr_ok ((fetchInstr_at_top hpc).trans (by rw [hop, decode_ldHlD16]))
    rw [exec_ldD16, ld16_eq, hlo, hhi] at hstep
    exact ⟨_, hstep, hiByte_mkWord hi lo, loByte_mkWord hi lo, congrArg (· + 3#16) hpc⟩

end Machine
end Sys2Proof
end

section
/-!
PROOFS. The encoding (30_encoding.md): the round trip of encoder and decoder, and the first bytes without an operation.
-/

open Sys2Proof Sys2Proof.Machine Sys2Proof.Rules

namespace Sys2Proof

/-! ### The layout of an instruction's bytes -/

/-- The layouts of an instruction (30_encoding.md R61 to R63), as encoder and decoder both read them: the opcode byte
alone, followed by one operand byte (the formats `OP_D8` and `PFX_OP`), or by a 16-bit operand with its low byte first. -/
inductive Instr.Layout : Instr → Prop where
  | opcode {i : Instr} (henc : encode i = [i.firstByte]) (hdec : ∀ b1 b2, decode i.firstByte b1 b2 = .ok i) : Layout i
  | byteOperand (mk : Byte → Instr) (v : Byte) (henc : ∀ w, encode (mk w) = [(mk 0#8).firstByte, w])
      (hdec : ∀ b1 b2, decode (mk 0#8).firstByte b1 b2 = .ok (mk b1)) : Layout (mk v)
  | wordOperand (mk : Word → Instr) (v : Word) (henc : ∀ w, encode (mk w) = [(mk 0#16).firstByte, loByte w, hiByte w])
      (hdec : ∀ b1 b2, decode (mk 0#16).firstByte b1 b2 = .ok (mk (mkWord b2 b1))) : Layout (mk v)

/-- Every operand form has a layout: the opcode map of R65 and the field decoder of R64 agree on it. -/
theorem Instr.layout (i : Instr) : i.Layout := by
  cases i.form with
  | nop => exact .opcode rfl fun _ _ => rfl
  | rlca => exact .opcode rfl fun _ _ => rfl
  | prefixCb v => exact .byteOperand .prefixCb v (fun _ => rfl) decode_esc
  | ldRR dst src => cases dst <;> cases src <;> exact .opcode rfl fun _ _ => rfl
  | ldRAtHl dst => cases dst <;> exact .opcode rfl fun _ _ => rfl
  | ldAtHlR src => cases src <;> exact .opcode rfl fun _ _ => rfl
  | ldD8 dst v =>
    rcases dst with r | _
    · cases r <;> exact .byteOperand (Instr.ldD8 (.reg _)) v (fun _ => rfl) fun _ _ => rfl
    · exact .byteOperand (Instr.ldD8 .atHl) v (fun _ => rfl) fun _ _ => rfl
  | ldD16 p v => cases p <;> exact .wordOperand (Instr.ldD16 _) v (fun _ => rfl) fun _ _ => rfl
  | addHl p => cases p <;> exact .opcode rfl fun _ _ => rfl
  | inc8 l =>
    rcases l with r | _
    · cases r <;> exact .opcode rfl fun _ _ => rfl
    · exact .opcode rfl fun _ _ => rfl
  | dec8 l =>
    rcases l with r | _
    · cases r <;> exact .opcode rfl fun _ _ => rfl
    · exact .opcode rfl fun _ _ => rfl
  | alu op src =>
    rcases src with (r | _) | v
    · cases op <;> cases r <;> exact .opcode rfl fun _ _ => rfl
    · cases op <;> exact .opcode rfl fun _ _ => rfl
    · cases op <;> exact .byteOperand (fun w => Instr.alu _ (.imm w)) v (fun _ => rfl) fun _ _ => rfl

/-! ### The round trip -/

/-- Settles O7: in each layout the decoder finds the operand where the encoder put it. -/
theorem decodeOfEncodeIsTheInstruction : Obligations.DecodeOfEncodeIsTheInstruction := by
  intro i rest
  cases i.layout with
  | opcode henc hdec => rw [henc]; exact hdec _ _
  | byteOperand mk v henc hdec => rw [henc]; exact hdec _ _
  | wordOperand mk v henc hdec =>
    have hword : decode (mk 0#16).firstByte (loByte v) (hiByte v) = .ok (mk v) := by rw [hdec, mkWord_hiByte_loByte]
    rw [henc]; exact hword

/-- Settles O8: the first byte is that of the answer, and the answer's layout tells how the two after it were read. -/
theorem decodedBytesAreTheEncoding : Obligations.DecodedBytesAreTheEncoding := by
  intro b0 b1 b2 i h
  obtain rfl : i.firstByte = b0 := firstByte_of_decode h
  cases i.layout with
  | opcode henc hdec => exact ⟨[b1, b2], by rw [henc]; rfl⟩
  | byteOperand mk v henc hdec =>
    have hbyte : (mk v).firstByte = (mk 0#8).firstByte := by rw [Instr.firstByte, henc]; rfl
    rw [hbyte] at h ⊢
    have hi : mk b1 = mk v := Except.ok.inj ((hdec b1 b2).symm.trans h)
    exact ⟨[b2], by rw [← hi, henc]; rfl⟩
  | wordOperand mk v henc hdec =>
    have hbyte : (mk v).firstByte = (mk 0#16).firstByte := by rw [Instr.firstByte, henc]; rfl
    rw [hbyte] at h ⊢
    have hi : mk (mkWord b2 b1) = mk v := Except.ok.inj ((hdec b1 b2).symm.trans h)
    exact ⟨[], by rw [← hi, henc, loByte_mkWord, hiByte_mkWord]; rfl⟩

/-- Settles O6: each word, by running the decoder. -/
theorem specWordsDecodeRight : Obligations.SpecWordsDecodeRight :=
  ⟨rfl, rfl, rfl, rfl, rfl, rfl, rfl, rfl, rfl, rfl, decode_esc .., rfl⟩

/-! ### The first bytes without an operation -/

/-- The decoder rejects exactly the listed bytes: the escape byte is not in the list, and elsewhere the first opcode
table and the list exclude each other. -/
theorem decode_eq_unimplemented_iff (b0 b1 b2 : Byte) :
    decode b0 b1 b2 = .error (.unimplemented b0) ↔ isUnimplemented b0 = true := by
  rw [decode_eq_error]
  by_cases hesc : b0 = Config.esc
  · subst hesc
    decide
  · simp [hesc, decodeFirst_isSome_eq_not_isUnimplemented b0 hesc]

namespace Machine

/-- A run whose first step raises ends there, in the state it began with (44_engine_nop_prefix.md R141). -/
theorem runFor_succ_of_fault {s : State} {r : Fault} (h : step s = .fault r) (k : Nat) :
    runFor (k + 1) s = { final := s, steps := 0, stop := .error r } := by
  simp only [runFor, h]

theorem runFor_final_of_fault {s : State} {r : Fault} (h : step s = .fault r) (k : Nat) : (runFor k s).final = s := by
  cases k with
  | zero => rfl
  | succ k => rw [runFor_succ_of_fault h]

/-- Settles O9: the count by computing the list, the rest from what decoder and step do at its bytes. -/
theorem unimplementedBytesAreTheListed122 : Obligations.UnimplementedBytesAreTheListed122 :=
  ⟨rfl, by decide, decode_eq_unimplemented_iff, fun _ h =>
    ⟨step_of_isUnimplemented h, runFor_final_of_fault (step_of_isUnimplemented h)⟩⟩

end Machine
end Sys2Proof
end

section
/-!
PROOFS. The ALU routines (40_alu_routines.md): 16-bit addition and subtraction as chains of two 8-bit operations.
-/

open Sys2Proof Sys2Proof.Machine Sys2Proof.Rules

namespace Sys2Proof

theorem toNat_eq_hiByte_loByte (v : Word) : v.toNat = (hiByte v).toNat * 256 + (loByte v).toNat := by
  rw [← mkWord_toNat, mkWord_hiByte_loByte]

theorem toNat_decide (p : Prop) [Decidable p] : (decide p).toNat = if p then 1 else 0 := Bool.cond_decide p 1 0

namespace Machine

/-! ### A result and its carry are one wide number -/

/-- The carry or borrow that an 8-bit routine gives out; the four add and subtract operations always write it. -/
def AluOut.carry (out : AluOut Byte) : Bool := out.flags.cy.getD false

theorem aluRoutine_cy (op : AluOp) (a v : Byte) (c : Bool) :
    (aluRoutine op a v c).flags.cy = some (aluRoutine op a v c).carry := by
  cases op <;> rfl

/-- R81: the carry is worth 256. -/
theorem add8_toNat_add_carry (a v : Byte) (c : Bool) :
    (add8 a v c).result.toNat + 256 * (add8 a v c).carry.toNat = a.toNat + v.toNat + c.toNat := by
  have hcarry : (add8 a v c).carry = decide (a.toNat + v.toNat + c.toNat > 0xFF) := rfl
  have ha := a.isLt
  have hv := v.isLt
  have hc := c.toNat_le
  rw [add8_toNat, hcarry, toNat_decide]
  split <;> omega

/-- R82: the borrow is worth 256. -/
theorem sub8_toNat_add_operands (a v : Byte) (c : Bool) :
    (sub8 a v c).result.toNat + v.toNat + c.toNat = a.toNat + 256 * (sub8 a v c).carry.toNat := by
  have hcarry : (sub8 a v c).carry = decide (a.toNat < v.toNat + c.toNat) := rfl
  have ha := a.isLt
  have hv := v.isLt
  have hc := c.toNat_le
  rw [sub8_toNat, hcarry, toNat_decide]
  split <;> omega

/-! ### Two routines chained by the carry -/

/-- The word and the last carry that two operations compute from the low and then the high bytes of two words, the
second with the carry of the first. -/
def chained (lo hi : AluOp) (c : Bool) (x y : Word) : Word × Bool :=
  let low := aluRoutine lo (loByte x) (loByte y) c
  let high := aluRoutine hi (hiByte x) (hiByte y) low.carry
  (mkWord high.result low.result, high.carry)

theorem eq_add_of_toNat_add_carry {w x y : Word} {d : Bool}
    (h : w.toNat + 65536 * d.toNat = x.toNat + y.toNat) : (w, d) = (x + y, decide (x.toNat + y.toNat > 0xFFFF)) := by
  have hw : w = x + y := by bv_omega
  have hd : d = decide (x.toNat + y.toNat > 0xFFFF) := by
    cases d with
    | false => exact (decide_eq_false (by rw [Bool.toNat_false] at h; omega)).symm
    | true => exact (decide_eq_true (by rw [Bool.toNat_true] at h; omega)).symm
  rw [hw, hd]

theorem eq_sub_of_toNat_add_operand {w x y : Word} {d : Bool}
    (h : w.toNat + y.toNat = x.toNat + 65536 * d.toNat) : (w, d) = (x - y, decide (x.toNat < y.toNat)) := by
  have hw : w = x - y := by bv_omega
  have hd : d = decide (x.toNat < y.toNat) := by
    cases d with
    | false => exact (decide_eq_false (by rw [Bool.toNat_false] at h; omega)).symm
    | true => exact (decide_eq_true (by rw [Bool.toNat_true] at h; omega)).symm
  rw [hw, hd]

/-- The carry between the bytes cancels: it is worth 256 of the low bytes and 1 of the high ones. -/
theorem chained_add_adc (c : Bool) (x y : Word) :
    chained .add .adc c x y = (x + y, decide (x.toNat + y.toNat > 0xFFFF)) := by
  have hlow := add8_toNat_add_carry (loByte x) (loByte y) false
  have hhigh := add8_toNat_add_carry (hiByte x) (hiByte y) (add8 (loByte x) (loByte y) false).carry
  simp only [chained, aluRoutine]
  apply eq_add_of_toNat_add_carry
  rw [mkWord_toNat, toNat_eq_hiByte_loByte x, toNat_eq_hiByte_loByte y]
  rw [Bool.toNat_false] at hlow
  omega

/-- The borrow between the bytes cancels in the same way. -/
theorem chained_sub_sbc (c : Bool) (x y : Word) :
    chained .sub .sbc c x y = (x - y, decide (x.toNat < y.toNat)) := by
  have hlow := sub8_toNat_add_operands (loByte x) (loByte y) false
  have hhigh := sub8_toNat_add_operands (hiByte x) (hiByte y) (sub8 (loByte x) (loByte y) false).carry
  simp only [chained, aluRoutine]
  apply eq_sub_of_toNat_add_operand
  rw [mkWord_toNat, toNat_eq_hiByte_loByte x, toNat_eq_hiByte_loByte y]
  rw [Bool.toNat_false] at hlow
  omega

/-! ### The immediate forms, chained -/

theorem exec_alu_imm (op : AluOp) (v : Byte) (s : State) :
    ∃ t, exec (Instr.alu op (.imm v)) s = .next t ∧ t.a = (aluRoutine op s.a v (s.flag .cy)).result ∧
      t.f.getLsbD 4 = (aluRoutine op s.a v (s.flag .cy)).carry := by
  refine ⟨_, (exec_alu op (.imm v) s).trans (alu8_eq op (.imm v) s), rfl, ?_⟩
  rw [incrementPc_f, writeFlags_f, applyFlags_cy, aluRoutine_cy]
  rfl

/-- The load of A between the two operations does not touch Cy. -/
theorem exec_chained (lo hi : AluOp) {s : State} {x : Word} (y : Word) (ha : s.a = loByte x) :
    ∃ t, exec (Instr.alu lo (.imm (loByte y))) s = .next t ∧
      ∃ u, exec (Instr.alu hi (.imm (hiByte y))) (t.writeReg8 .a (hiByte x)) = .next u ∧
        ((u.a ++ t.a : Word), u.f.getLsbD 4) = chained lo hi (s.flag .cy) x y := by
  obtain ⟨t, ht, hta, htcy⟩ := exec_alu_imm lo (loByte y) s
  obtain ⟨u, hu, hua, hucy⟩ := exec_alu_imm hi (hiByte y) (t.writeReg8 .a (hiByte x))
  refine ⟨t, ht, u, hu, ?_⟩
  rw [ha] at hta htcy
  rw [flag_cy_eq_bit, writeReg8_f, htcy, writeReg8_a_a] at hua hucy
  rw [hta, hua, hucy]
  rfl

/-- Settles O43: the chain computes the 16-bit sum. -/
theorem addThenAdcIsSixteenBitAddition : Obligations.AddThenAdcIsSixteenBitAddition := by
  intro s x y ha
  obtain ⟨t, ht, u, hu, hout⟩ := exec_chained .add .adc y ha
  exact ⟨t, ht, u, hu, Prod.ext_iff.mp (hout.trans (chained_add_adc _ x y))⟩

/-- Settles O44: the chain computes the 16-bit difference. -/
theorem subThenSbcIsSixteenBitSubtraction : Obligations.SubThenSbcIsSixteenBitSubtraction := by
  intro s x y ha
  obtain ⟨t, ht, u, hu, hout⟩ := exec_chained .sub .sbc y ha
  exact ⟨t, ht, u, hu, Prod.ext_iff.mp (hout.trans (chained_sub_sbc _ x y))⟩

end Machine
end Sys2Proof
end

section
/-!
PROOFS. The 8-bit add and subtract instructions (41_alu8_add_sub.md): one statement for the four operations and all their
operands, from the numbers of the two routines; and the step at the bytes that the encoder gives.
-/

open Sys2Proof Sys2Proof.Machine Sys2Proof.Rules

namespace Sys2Proof

/-! ### The opcode bytes -/

/-- The number of the pattern `100oo000` (30_encoding.md R64). -/
def AluOp.baseByte : AluOp → Nat
  | .add => 0x80
  | .adc => 0x88
  | .sub => 0x90
  | .sbc => 0x98

/-- Pattern `100oosss`, the register field in the low bits. -/
theorem encode_alu_reg (op : AluOp) (r : Reg8) :
    encode (.alu op (.loc (.reg r))) = [byte (op.baseByte + regField r)] := by
  cases op <;> cases r <;> rfl

/-- Pattern `100oosss` with the field value 6 for the memory byte at HL (10_state.md R25). -/
theorem encode_alu_atHl (op : AluOp) : encode (.alu op (.loc .atHl)) = [byte (op.baseByte + 0x06)] := by
  cases op <;> rfl

/-- Pattern `110oo110`: bit 6 set as well, and the immediate byte follows. -/
theorem encode_alu_imm (op : AluOp) (v : Byte) : encode (.alu op (.imm v)) = [byte (op.baseByte + 0x46), v] := by
  cases op <;> rfl

namespace Machine

/-! ### The step at an instruction's bytes -/

/-- In each layout the fetch decodes the bytes at PC to the instruction that they encode. -/
theorem fetchInstr_of_bytesAt_encode {s : State} {i : Instr} (h : bytesAt s s.pc (encode i) = true) :
    s.fetchInstr = .ok i := by
  rw [fetchInstr_eq]
  cases i.layout with
  | opcode henc hdec =>
    rw [henc] at h
    simp only [bytesAt, Bool.and_true, beq_iff_eq] at h
    rw [h, hdec]
  | byteOperand mk v henc hdec =>
    rw [henc] at h
    simp only [bytesAt, Bool.and_true, Bool.and_eq_true, beq_iff_eq] at h
    obtain ⟨hop, hv⟩ := h
    rw [hop, hv, hdec]
  | wordOperand mk v henc hdec =>
    have h2 : s.pc + 1#16 + 1#16 = s.pc + 2#16 := by bv_omega
    rw [henc] at h
    simp only [bytesAt, Bool.and_true, Bool.and_eq_true, beq_iff_eq, h2] at h
    obtain ⟨hop, hlo, hhi⟩ := h
    rw [hop, hlo, hhi, hdec, mkWord_hiByte_loByte]

theorem step_of_bytesAt_encode {s : State} {i : Instr} (h : bytesAt s s.pc (encode i) = true) : step s = exec i s :=
  step_of_fetchInstr_ok (fetchInstr_of_bytesAt_encode h)

/-- An instruction that completes by `exec` does so as a step at its encoding. -/
theorem does_of_exec {s t : State} {i : Instr} {post : State → Prop} (h : exec i s = .next t) (hpost : post t) :
    Does s i (encode i) post :=
  ⟨t, h, fun hbytes => (step_of_bytesAt_encode hbytes).trans h, hpost⟩

/-! ### The routines as numbers -/

/-- What an add or subtract routine returns, by the number of the result: all four flags are written, and Z is that of
the result (40_alu_routines.md R81, R82). -/
def accumulatorOut (result : Nat) (n h c : Bool) : AluOut Byte :=
  { result := byte result
    flags := { z := some (decide (result = 0)), n := some n, hf := some h, cy := some c } }

theorem eq_accumulatorOut {out : AluOut Byte} {result : Nat} {n h c : Bool} (hresult : out.result.toNat = result)
    (hflags : out.flags = { z := some (out.result == 0#8), n := some n, hf := some h, cy := some c }) :
    out = accumulatorOut result n h c := by
  rw [beq_zero_eq, hresult] at hflags
  rw [accumulatorOut, ← hflags, ← hresult, byte, BitVec.ofNat_toNat, BitVec.setWidth_eq]

theorem add8_eq_accumulatorOut (a v : Byte) (c : Bool) :
    add8 a v c = accumulatorOut ((a.toNat + v.toNat + c.toNat) % 256) false
      (decide (a.toNat % 16 + v.toNat % 16 + c.toNat > 0xF)) (decide (a.toNat + v.toNat + c.toNat > 0xFF)) :=
  eq_accumulatorOut (add8_toNat a v c) rfl

theorem sub8_eq_accumulatorOut (a v : Byte) (c : Bool) :
    sub8 a v c = accumulatorOut ((a.toNat + 256 - (v.toNat + c.toNat)) % 256) true
      (decide (a.toNat % 16 < v.toNat % 16 + c.toNat)) (decide (a.toNat < v.toNat + c.toNat)) :=
  eq_accumulatorOut (sub8_toNat a v c) rfl

/-! ### The instructions -/

/-- Writing A, then the four flags, then PC leaves everything else as it was. -/
theorem accumulatorPost_of_accumulatorOut (s : State) (len : Word) (result : Nat) (n h c : Bool) :
    accumulatorPost s (((s.writeReg8 .a (accumulatorOut result n h c).result).writeFlags
      (accumulatorOut result n h c).flags).incrementPc len) len result n h c :=
  ⟨⟨rfl, fun x hx => by
      rw [readReg8_incrementPc, readReg8_writeFlags, readReg8_writeReg8, if_neg hx]⟩,
    ⟨applyFlags_z .., applyFlags_n .., applyFlags_hf .., applyFlags_cy ..⟩, applyFlags_low .., rfl, rfl, fun _ => rfl⟩

/-- The numbers of the routine are those of the instruction, for every operand. -/
theorem does_alu (op : AluOp) (src : Src8) (s : State) {result : Nat} {n h c : Bool}
    (hout : aluRoutine op s.a (s.readSrc8 src) (s.f.getLsbD 4) = accumulatorOut result n h c) :
    Does s (.alu op src) (encode (.alu op src)) (fun t => accumulatorPost s t (srcLength src) result n h c) := by
  refine does_of_exec ((exec_alu op src s).trans (alu8_eq op src s)) ?_
  rw [flag_cy_eq_bit, hout]
  exact accumulatorPost_of_accumulatorOut s _ result n h c

/-- One operation with its three kinds of operand (30_encoding.md R69). -/
theorem does_alu_everySource (op : AluOp) (s : State) {result : Byte → Nat} {n : Bool} {h c : Byte → Bool}
    (hout : ∀ v, aluRoutine op s.a v (s.f.getLsbD 4) = accumulatorOut (result v) n (h v) (c v)) :
    let post (len : Word) (v : Byte) (t : State) : Prop := accumulatorPost s t len (result v) n (h v) (c v)
    (∀ r : Reg8, Does s (.alu op (.loc (.reg r))) [byte (op.baseByte + regField r)] (post 1#16 (s.readReg8 r))) ∧
      Does s (.alu op (.loc .atHl)) [byte (op.baseByte + 0x06)] (post 1#16 (s.memRead s.hl)) ∧
      ∀ v : Byte, Does s (.alu op (.imm v)) [byte (op.baseByte + 0x46), v] (post 2#16 v) :=
  ⟨fun r => encode_alu_reg op r ▸ does_alu op (.loc (.reg r)) s (hout _),
    encode_alu_atHl op ▸ does_alu op (.loc .atHl) s (hout _),
    fun v => encode_alu_imm op v ▸ does_alu op (.imm v) s (hout v)⟩

/-- Settles O38: the routine is `add8` without a carry in. -/
theorem addWritesSumAndFlags : Obligations.AddWritesSumAndFlags := fun s =>
  does_alu_everySource .add s fun v => add8_eq_accumulatorOut s.a v false

/-- Settles O39: the routine is `add8` with Cy as the carry in. -/
theorem adcWritesSumWithCarryAndFlags : Obligations.AdcWritesSumWithCarryAndFlags := fun s =>
  does_alu_everySource .adc s fun v => add8_eq_accumulatorOut s.a v (s.f.getLsbD 4)

/-- Settles O40: the routine is `sub8` without a borrow in. -/
theorem subWritesDifferenceAndFlags : Obligations.SubWritesDifferenceAndFlags := fun s =>
  does_alu_everySource .sub s fun v => sub8_eq_accumulatorOut s.a v false

/-- Settles O41: the routine is `sub8` with Cy as the borrow in. -/
theorem sbcWritesDifferenceWithBorrowAndFlags : Obligations.SbcWritesDifferenceWithBorrowAndFlags := fun s =>
  does_alu_everySource .sbc s fun v => sub8_eq_accumulatorOut s.a v (s.f.getLsbD 4)

/-! ### Subtracting A from itself -/

/-- A byte less itself and a borrow: the borrow fills the result and goes out of both nibbles. -/
theorem sub8_self (a : Byte) (c : Bool) : sub8 a a c = accumulatorOut (if c then 0xFF else 0x00) true c c := by
  rw [sub8_eq_accumulatorOut]
  cases c <;> simp

/-- Settles O42: SUB A takes no borrow in, SBC A,A takes Cy. -/
theorem subtractingAFromItself : Obligations.SubtractingAFromItself := by
  intro s
  obtain ⟨t, ht, -, ⟨hta, -⟩, htf, -⟩ := does_alu .sub (.loc (.reg .a)) s (sub8_self s.a false)
  obtain ⟨u, hu, -, ⟨hua, -⟩, huf, -⟩ := does_alu .sbc (.loc (.reg .a)) s (sub8_self s.a (s.f.getLsbD 4))
  refine ⟨⟨t, ht, hta, htf⟩, u, hu, ?_⟩
  generalize s.f.getLsbD 4 = cin at hua huf ⊢
  cases cin <;> exact ⟨hua, huf⟩

end Machine
end Sys2Proof
end

section
/-!
PROOFS. INC, DEC, ADD HL,rr and RLCA (42_incdec_add16_rlca.md): one statement for INC and DEC and all their operands, the
16-bit sum by its two bytes, and RLCA as a rotation of the bits of A.
-/

open Sys2Proof Sys2Proof.Machine Sys2Proof.Rules

namespace Sys2Proof

/-! ### The opcode bytes -/

/-- Pattern `00rrr100`. -/
theorem encode_inc8_reg (r : Reg8) : encode (.inc8 (.reg r)) = [byte (0x04 + 8 * regField r)] := by
  cases r <;> rfl

/-- Pattern `00rrr101`. -/
theorem encode_dec8_reg (r : Reg8) : encode (.dec8 (.reg r)) = [byte (0x05 + 8 * regField r)] := by
  cases r <;> rfl

/-- Pattern `00pp1001`. -/
theorem encode_addHl (p : Rp) : encode (.addHl p) = [byte (0x09 + 16 * pairField p)] := by
  cases p <;> rfl

namespace Machine

/-! ### INC and DEC -/

/-- What the routine of INC or DEC returns, by the number of the result, which counts modulo 256: Cy is not written
(40_alu_routines.md R84, R85). -/
def updateOut (result : Nat) (z n h : Bool) : AluOut Byte :=
  { result := byte result, flags := { z := some z, n := some n, hf := some h, cy := none } }

theorem inc8_eq_updateOut (x : Byte) :
    inc8 x = updateOut (x.toNat + 1) (decide ((x.toNat + 1) % 256 = 0)) false (decide (x.toNat % 16 = 0xF)) := by
  have hz : ((inc8 x).result == 0#8) = decide ((x.toNat + 1) % 256 = 0) := by rw [beq_zero_eq, inc8_toNat]
  have hh : decide (lowNibble x + 1 > 0x0F) = decide (x.toNat % 16 = 0xF) :=
    decide_eq_decide.mpr (by rw [lowNibble]; omega)
  rw [updateOut, ← hz, ← hh]
  rfl

theorem dec8_eq_updateOut (x : Byte) :
    dec8 x = updateOut (x.toNat + 255) (decide (x.toNat = 1)) true (decide (x.toNat % 16 = 0)) := by
  have hx := x.isLt
  have hresult : (dec8 x).result = byte (x.toNat + 255) :=
    BitVec.eq_of_toNat_eq ((dec8_toNat x).trans (BitVec.toNat_ofNat _ 8).symm)
  have hz : ((dec8 x).result == 0#8) = decide (x.toNat = 1) := by
    rw [beq_zero_eq, dec8_toNat]
    exact decide_eq_decide.mpr (by omega)
  rw [updateOut, ← hresult, ← hz]
  rfl

/-- What INC and DEC leave of F, SP and PC. -/
def updatePost (s t : State) (z n h : Bool) : Prop :=
  flagsAre t z n h (s.f.getLsbD 4) ∧ lowNibbleKept s t ∧ t.sp = s.sp ∧ t.pc = s.pc + 1#16

/-- Writing Z, N and Hf, then the operand, then PC: the operand's place does not matter to F, SP and PC. -/
theorem updatePost_of_updateOut (s : State) (l : Loc8) (result : Nat) (z n h : Bool) :
    updatePost s (((s.writeFlags (updateOut result z n h).flags).writeLoc8 l (updateOut result z n h).result).incrementPc
      1#16) z n h := by
  rw [updatePost, flagsAre, lowNibbleKept, incrementPc_f, writeLoc8_f, writeFlags_f, incrementPc_sp, writeLoc8_sp,
    incrementPc_pc, writeLoc8_pc]
  exact ⟨⟨applyFlags_z .., applyFlags_n .., applyFlags_hf .., applyFlags_cy ..⟩, applyFlags_low .., rfl, rfl⟩

/-- INC or DEC with its two kinds of operand; the register field of the opcode starts at bit 3, and its value 6 is the
memory byte at HL (10_state.md R25). -/
theorem does_update8_everyOperand {mk : Loc8 → Instr} {routine : Byte → AluOut Byte} {base : Nat}
    {result : Byte → Nat} {z h : Byte → Bool} {n : Bool}
    (hexec : ∀ l s, exec (mk l) s = update8 routine l s)
    (hout : ∀ x, routine x = updateOut (result x) (z x) n (h x))
    (hreg : ∀ r, encode (mk (.reg r)) = [byte (base + 8 * regField r)])
    (hatHl : encode (mk .atHl) = [byte (base + 8 * 6)]) (s : State) :
    let flags (x : Byte) (t : State) : Prop := updatePost s t (z x) n (h x)
    (∀ r : Reg8, Does s (mk (.reg r)) [byte (base + 8 * regField r)] (fun t =>
        registerSet s t r (byte (result (s.readReg8 r))) ∧ flags (s.readReg8 r) t ∧ memoryKept s t)) ∧
      Does s (mk .atHl) [byte (base + 8 * 6)] (fun t =>
        t.memRead s.hl = byte (result (s.memRead s.hl)) ∧ memoryKeptBut s t s.hl ∧ registersKept s t ∧
          flags (s.memRead s.hl) t) := by
  have hnext (l : Loc8) := (hexec l s).trans (update8_eq routine l s)
  simp only [hout] at hnext
  refine ⟨fun r => ?_, ?_⟩
  · rw [← hreg r]
    refine does_of_exec (hnext (.reg r)) ⟨⟨?_, fun x hx => ?_⟩, updatePost_of_updateOut .., fun x => ?_⟩
    · rw [readReg8_incrementPc, writeLoc8_reg, readReg8_writeReg8, if_pos rfl, readLoc8_reg, updateOut]
    · rw [readReg8_incrementPc, writeLoc8_reg, readReg8_writeReg8, if_neg hx, readReg8_writeFlags]
    · rw [memRead_incrementPc, writeLoc8_reg, memRead_writeReg8, memRead_writeFlags]
  · rw [← hatHl]
    refine does_of_exec (hnext .atHl) ⟨?_, fun x hx => ?_, fun x => ?_, updatePost_of_updateOut ..⟩
    · rw [memRead_incrementPc, writeLoc8_atHl, hl_writeFlags, memRead_memWrite, if_pos rfl, readLoc8_atHl, updateOut]
    · rw [memRead_incrementPc, writeLoc8_atHl, hl_writeFlags, memRead_memWrite, if_neg hx, memRead_writeFlags]
    · rw [readReg8_incrementPc, writeLoc8_atHl, readReg8_memWrite, readReg8_writeFlags]

/-- Settles O45: the routine is `inc8`. -/
theorem incWritesSuccessorAndThreeFlags : Obligations.IncWritesSuccessorAndThreeFlags :=
  does_update8_everyOperand exec_inc8 inc8_eq_updateOut encode_inc8_reg rfl

/-- Settles O46: the routine is `dec8`. -/
theorem decWritesPredecessorAndThreeFlags : Obligations.DecWritesPredecessorAndThreeFlags :=
  does_update8_everyOperand exec_dec8 dec8_eq_updateOut encode_dec8_reg rfl

/-! ### ADD HL,rr -/

theorem hiByte_add16 (x y : Word) : hiByte (add16 x y).result = byte ((x.toNat + y.toNat) % 65536 / 256) := by
  rw [hiByte_eq_byte, add16_toNat]

/-- The low byte of the sum does not see that the sum is narrowed to 16 bits. -/
theorem loByte_add16 (x y : Word) : loByte (add16 x y).result = byte (x.toNat + y.toNat) := by
  rw [loByte_eq_byte, add16_toNat]
  apply BitVec.eq_of_toNat_eq
  simp only [byte, BitVec.toNat_ofNat]
  omega

theorem readReg8_writeRp_hl (s : State) (v : Word) {x : Reg8} (hh : x ≠ .h) (hl : x ≠ .l) :
    (s.writeRp .hl v).readReg8 x = s.readReg8 x := by
  rw [writeRp_hl, readReg8_writeReg8, if_neg hl, readReg8_writeReg8, if_neg hh]

/-- Settles O47: the routine is `add16`, on HL and the pair as they are at the start of the step. -/
theorem addToHlWritesSumAndThreeFlags : Obligations.AddToHlWritesSumAndThreeFlags := by
  intro s p
  rw [← encode_addHl p]
  refine does_of_exec ((exec_addHl p s).trans (addToHl_eq p s)) ⟨hiByte_add16 .., loByte_add16 .., fun x hh hl => ?_,
    ⟨?_, applyFlags_n .., applyFlags_hf .., applyFlags_cy ..⟩, applyFlags_low .., rfl, rfl, fun _ => rfl⟩
  · rw [readReg8_incrementPc, readReg8_writeFlags, readReg8_writeRp_hl s _ hh hl]
  · exact applyFlags_z ..

/-! ### RLCA -/

theorem rlc8_eq_accumulatorOut (a : Byte) :
    rlc8 a = accumulatorOut (a.toNat * 2 % 256 + a.toNat / 128) false false (a.getLsbD 7) :=
  eq_accumulatorOut (rlc8_toNat a) rfl

/-- A rotation gives zero from zero only. -/
theorem rotated_eq_zero_iff (a : Byte) : a.toNat * 2 % 256 + a.toNat / 128 = 0 ↔ a = 0x00#8 := by
  rw [← BitVec.toNat_inj, BitVec.toNat_ofNat, Nat.add_eq_zero_iff]
  omega

/-- Bit `i` of the rotated byte is the bit below it, bit 7 for bit 0: the place is `i - 1` modulo 8. -/
theorem rlc8_bit (a : Byte) {i : Nat} (hi : i < 8) : (rlc8 a).result.getLsbD i = a.getLsbD ((i + 7) % 8) := by
  interval_cases i <;> simp [rlc8]

theorem exec_rlca_eq_next (s : State) :
    exec .rlca s =
      .next (((s.writeReg8 .a (rlc8 s.a).result).writeFlags (rlc8 s.a).flags).incrementPc 1#16) :=
  (exec_rlca s).trans (rotateA_eq s)

/-- `k` executions in a row move the bits of A by `k` places. -/
theorem execTimes_rlca (k : Nat) (s : State) :
    ∃ t, execTimes k .rlca s = .next t ∧ ∀ i < 8, t.a.getLsbD i = s.a.getLsbD ((i + 7 * k) % 8) := by
  induction k generalizing s with
  | zero => exact ⟨s, rfl, fun i hi => by rw [Nat.mul_zero, Nat.add_zero, Nat.mod_eq_of_lt hi]⟩
  | succ k ih =>
    obtain ⟨t, ht, hbits⟩ := ih (((s.writeReg8 .a (rlc8 s.a).result).writeFlags (rlc8 s.a).flags).incrementPc 1#16)
    refine ⟨t, by rw [execTimes, exec_rlca_eq_next]; exact ht, fun i hi => ?_⟩
    rw [hbits i hi, incrementPc_a, writeFlags_a, writeReg8_a_a, rlc8_bit s.a (by omega),
      show ((i + 7 * k) % 8 + 7) % 8 = (i + 7 * (k + 1)) % 8 by omega]

/-- Settles O48: one execution by the numbers of `rlc8`, eight by the places of the bits. -/
theorem rlcaRotatesA : Obligations.RlcaRotatesA := by
  intro s
  refine ⟨does_of_exec (exec_rlca_eq_next s) ?_, ?_⟩
  · rw [rlc8_eq_accumulatorOut, ← decide_eq_decide.mpr (rotated_eq_zero_iff s.a)]
    exact accumulatorPost_of_accumulatorOut s 1#16 _ false false (s.a.getLsbD 7)
  · obtain ⟨t, ht, hbits⟩ := execTimes_rlca 8 s
    refine ⟨t, ht, BitVec.eq_of_getLsbD_eq fun i hi => ?_⟩
    rw [hbits i hi, show (i + 7 * 8) % 8 = i by omega]

end Machine
end Sys2Proof
end

section
/-!
PROOFS. The loads (43_loads.md): one statement for every 8-bit load into a register, one for every store to the memory byte
at HL, and one for the pairs of two registers.
-/

open Sys2Proof Sys2Proof.Machine Sys2Proof.Rules

namespace Sys2Proof

/-! ### The opcode bytes -/

/-- Pattern `01dddsss`. -/
theorem encode_ldRR (dst src : Reg8) : encode (.ldRR dst src) = [byte (0x40 + 8 * regField dst + regField src)] := by
  cases dst <;> cases src <;> rfl

/-- Pattern `01ddd110`. -/
theorem encode_ldRAtHl (dst : Reg8) : encode (.ldRAtHl dst) = [byte (0x46 + 8 * regField dst)] := by
  cases dst <;> rfl

/-- Pattern `01110sss`. -/
theorem encode_ldAtHlR (src : Reg8) : encode (.ldAtHlR src) = [byte (0x70 + regField src)] := by
  cases src <;> rfl

/-- Pattern `00rrr110`, and the immediate byte follows. -/
theorem encode_ldD8_reg (dst : Reg8) (v : Byte) : encode (.ldD8 (.reg dst) v) = [byte (0x06 + 8 * regField dst), v] := by
  cases dst <;> rfl

/-- Pattern `00pp0001`, and the word follows with its low byte first (30_encoding.md R63). -/
theorem encode_ldD16 (p : Rp) (hi lo : Byte) :
    encode (.ldD16 p (mkWord hi lo)) = [byte (0x01 + 16 * pairField p), lo, hi] := by
  have hbytes : encode (.ldD16 p (mkWord hi lo)) =
      [byte (0x01 + 16 * pairField p), loByte (mkWord hi lo), hiByte (mkWord hi lo)] := by
    cases p <;> rfl
  rw [hbytes, loByte_mkWord, hiByte_mkWord]

namespace Machine

/-! ### 8-bit loads and stores -/

theorem loadPost_of_writeReg8 (s : State) (len : Word) (r : Reg8) (v : Byte) :
    loadPost s ((s.writeReg8 r v).incrementPc len) len r v := by
  obtain ⟨hset, hf, hsp, hpc, -⟩ := registerWritesAreIndependent s r v
  exact ⟨hset, hf, hsp, congrArg (· + len) hpc, memRead_writeReg8 s r v⟩

theorem storePost_of_memWrite (s : State) (len : Word) (v : Byte) :
    storePost s ((s.memWrite s.hl v).incrementPc len) len v :=
  ⟨(memRead_memWrite s s.hl v s.hl).trans (if_pos rfl), memoryKeptBut_memWrite s s.hl v, readReg8_memWrite s s.hl v,
    rfl, rfl, rfl⟩

/-- Every load into a register, whatever its source. -/
theorem does_ld8_reg {i : Instr} {dst : Reg8} {src : Src8} {s : State} (hexec : exec i s = ld8 (.reg dst) src s) :
    Does s i (encode i) (fun t => loadPost s t (srcLength src) dst (s.readSrc8 src)) :=
  does_of_exec (hexec.trans (ld8_eq (.reg dst) src s)) (loadPost_of_writeReg8 s _ dst _)

/-- Every store to the memory byte at HL, whatever its source. -/
theorem does_ld8_atHl {i : Instr} {src : Src8} {s : State} (hexec : exec i s = ld8 .atHl src s) :
    Does s i (encode i) (fun t => storePost s t (srcLength src) (s.readSrc8 src)) :=
  does_of_exec (hexec.trans (ld8_eq .atHl src s)) (storePost_of_memWrite s _ _)

/-- Settles O31: the source operand is a register. -/
theorem loadRegisterFromRegister : Obligations.LoadRegisterFromRegister := fun s dst src =>
  encode_ldRR dst src ▸ does_ld8_reg (exec_ldRR dst src s)

/-- Settles O32: the source operand is the byte at the HL of the start, also when the destination is H or L. -/
theorem loadRegisterFromMemory : Obligations.LoadRegisterFromMemory := fun s dst =>
  encode_ldRAtHl dst ▸ does_ld8_reg (exec_ldRAtHl dst s)

/-- Settles O33: a store of a register, with H and L among the sources. -/
theorem storeRegisterToMemory : Obligations.StoreRegisterToMemory := fun s src =>
  encode_ldAtHlR src ▸ does_ld8_atHl (exec_ldAtHlR src s)

/-- Settles O34: the source operand is the byte after the opcode. -/
theorem loadRegisterImmediate : Obligations.LoadRegisterImmediate := fun s dst v =>
  encode_ldD8_reg dst v ▸ does_ld8_reg (exec_ldD8 (.reg dst) v s)

/-- Settles O35: a store of the byte after the opcode. -/
theorem storeImmediateToMemory : Obligations.StoreImmediateToMemory := fun s v =>
  does_ld8_atHl (exec_ldD8 .atHl v s)

/-! ### 16-bit loads -/

theorem does_ldD16 {s : State} {p : Rp} {hi lo : Byte} {post : State → Prop}
    (hpost : post ((s.writeRp p (mkWord hi lo)).incrementPc 3#16)) :
    Does s (.ldD16 p (mkWord hi lo)) [byte (0x01 + 16 * pairField p), lo, hi] post :=
  encode_ldD16 p hi lo ▸ does_of_exec ((exec_ldD16 p (mkWord hi lo) s).trans (ld16_eq p (mkWord hi lo) s)) hpost

/-- A load of a pair that is made of two registers: each takes its own half of the word. -/
theorem does_ldD16_registers {s : State} {p : Rp} {high low : Reg8} (hne : high ≠ low)
    (hpair : ∀ v, s.writeRp p v = (s.writeReg8 high (hiByte v)).writeReg8 low (loByte v)) (hi lo : Byte) :
    Does s (.ldD16 p (mkWord hi lo)) [byte (0x01 + 16 * pairField p), lo, hi] (fun t =>
      t.readReg8 high = hi ∧ t.readReg8 low = lo ∧ (∀ x, x ≠ high → x ≠ low → t.readReg8 x = s.readReg8 x) ∧
        t.f = s.f ∧ t.sp = s.sp ∧ t.pc = s.pc + 3#16 ∧ memoryKept s t) := by
  apply does_ldD16
  rw [hpair, hiByte_mkWord, loByte_mkWord]
  refine ⟨?_, ?_, fun x hhigh hlow => ?_, ?_, ?_, ?_, fun x => ?_⟩
  · rw [readReg8_incrementPc, readReg8_writeReg8, if_neg hne, readReg8_writeReg8, if_pos rfl]
  · rw [readReg8_incrementPc, readReg8_writeReg8, if_pos rfl]
  · rw [readReg8_incrementPc, readReg8_writeReg8, if_neg hlow, readReg8_writeReg8, if_neg hhigh]
  · rw [incrementPc_f, writeReg8_f, writeReg8_f]
  · rw [incrementPc_sp, writeReg8_sp, writeReg8_sp]
  · rw [incrementPc_pc, writeReg8_pc, writeReg8_pc]
  · rw [memRead_incrementPc, memRead_writeReg8, memRead_writeReg8]

/-- Settles O36: the three pairs, each by the registers that it is made of (10_state.md R22). -/
theorem loadPairImmediate : Obligations.LoadPairImmediate := fun s hi lo =>
  ⟨does_ldD16_registers (by decide) (writeRp_bc s) hi lo, does_ldD16_registers (by decide) (writeRp_de s) hi lo,
    does_ldD16_registers (by decide) (writeRp_hl s) hi lo⟩

/-- Settles O37: SP takes the whole word, and it is no general register. -/
theorem loadStackPointerImmediate : Obligations.LoadStackPointerImmediate := fun s hi lo =>
  does_ldD16 (p := .sp) ⟨rfl, readReg8_writeSp s (mkWord hi lo), rfl, rfl, fun _ => rfl⟩

end Machine
end Sys2Proof
end

section
/-!
PROOFS. The step, NOP and the escape byte, and runs of steps (44_engine_nop_prefix.md).
-/

open Sys2Proof Sys2Proof.Machine Sys2Proof.Rules

namespace Sys2Proof.Machine

/-! ### The step, NOP and the escape byte -/

/-- Settles O5: the three bytes are those that the fetch decodes. -/
theorem stepRunsDecodedInstruction : Obligations.StepRunsDecodedInstruction := fun s _ hdec =>
  step_of_fetchInstr_ok ((fetchInstr_eq s).trans hdec)

/-- Settles O10: the step at the escape byte faults, so a run from there ends where it began. -/
theorem escapeByteRaisesPrefixed : Obligations.EscapeByteRaisesPrefixed := fun s v =>
  ⟨(exec_prefixCb v s).trans (raiseUnimplemented_eq s v true), fun hesc =>
    ⟨step_of_esc hesc, runFor_final_of_fault (step_of_esc hesc)⟩⟩

theorem exec_nop_eq_next (s : State) : exec .nop s = .next (s.incrementPc 1#16) :=
  (exec_nop s).trans (complete_eq s 1#16)

/-- Settles O30: the next state is `s.incrementPc 1`. -/
theorem nopOnlyAdvancesPc : Obligations.NopOnlyAdvancesPc := fun s => does_of_exec (exec_nop_eq_next s) rfl

theorem decode_nop (b1 b2 : Byte) : decode 0x00#8 b1 b2 = .ok .nop := rfl

theorem step_of_opcodeAt_zero {s : State} (h : opcodeAt s = 0x00#8) : step s = .next (s.incrementPc 1#16) :=
  (step_of_opcodeAt h decode_nop).trans (exec_nop_eq_next s)

/-! ### Runs, by their first step -/

theorem runFor_succ_of_next {s t : State} (h : step s = .next t) (k : Nat) :
    runFor (k + 1) s = { final := (runFor k t).final, steps := (runFor k t).steps + 1, stop := (runFor k t).stop } := by
  simp only [runFor, h]

theorem lengthSum_succ_of_next {s t : State} (h : step s = .next t) (k : Nat) :
    lengthSum (k + 1) s = lengthOf (opcodeAt s) + lengthSum k t := by
  simp only [lengthSum, h]

theorem lengthSum_succ_of_fault {s : State} {r : Fault} (h : step s = .fault r) (k : Nat) : lengthSum (k + 1) s = 0 := by
  simp only [lengthSum, h]

/-- Induction over a run: the host stops it, its first step raises, or its first step completes and the run goes on from
the next state.  No step is refused. -/
theorem run_induction {motive : Nat → State → Prop} (stopped : ∀ s, motive 0 s)
    (raised : ∀ k s r, step s = .fault r → motive (k + 1) s)
    (completed : ∀ k s t, step s = .next t → motive k t → motive (k + 1) s) (k : Nat) (s : State) : motive k s := by
  induction k generalizing s with
  | zero => exact stopped s
  | succ k ih =>
    cases h : step s with
    | next t => exact completed k s t h (ih t)
    | fault r => exact raised k s r h
    | refused r => exact absurd h (step_ne_refused s r)

/-! ### The statements about runs -/

/-- Settles O14, by induction over the run: the first step adds its length by O13. -/
theorem pcAfterRunIsStartPlusLengths : Obligations.PcAfterRunIsStartPlusLengths := by
  refine run_induction (fun s => ?_) (fun k s r h => ?_) (fun k s t h ih => ?_)
  · exact (Nat.mod_eq_of_lt s.pc.isLt).symm
  · rw [runFor_final_of_fault h, lengthSum_succ_of_fault h]
    exact (Nat.mod_eq_of_lt s.pc.isLt).symm
  · calc (runFor (k + 1) s).final.pc.toNat
        = (t.pc.toNat + lengthSum k t) % 65536 := by rw [runFor_succ_of_next h, ih]
      _ = (s.pc.toNat + (lengthOf (opcodeAt s) + lengthSum k t)) % 65536 := by
          rw [completedStepAdvancesPcByLength s t h, Nat.mod_add_mod, Nat.add_assoc]
      _ = (s.pc.toNat + lengthSum (k + 1) s) % 65536 := by rw [lengthSum_succ_of_next h]

/-- Settles O15, by induction over the run: one that raises at once ends there whatever the number of steps, and a
completed first step leaves the end to the rest of the run. -/
theorem errorEndsTheRunForGood : Obligations.ErrorEndsTheRunForGood := by
  refine run_induction (fun s r hstop => ?_) (fun k s r h r' hstop => ?_) (fun k s t h ih r hstop => ?_)
  · cases hstop
  · rw [runFor_succ_of_fault h] at hstop ⊢
    obtain rfl : r = r' := RunStop.error.inj hstop
    exact ⟨h, fun j => by rw [Nat.add_right_comm, runFor_succ_of_fault h]⟩
  · rw [runFor_succ_of_next h] at hstop ⊢
    obtain ⟨hraises, hlonger⟩ := ih r hstop
    exact ⟨hraises, fun j => by rw [Nat.add_right_comm, runFor_succ_of_next h, hlonger j]⟩

/-- Settles O16, by induction on the number of steps: each is a NOP, after which memory is still zero. -/
theorem zeroMemoryExecutesNopForEver : Obligations.ZeroMemoryExecutesNopForEver := by
  intro k
  induction k with
  | zero => intro s _; rw [BitVec.add_zero]; rfl
  | succ k ih =>
    intro s hzero
    have hpc : s.pc + 1#16 + BitVec.ofNat 16 k = s.pc + BitVec.ofNat 16 (k + 1) := by
      rw [BitVec.add_assoc, ← BitVec.ofNat_add, Nat.add_comm]
    have hzero' : ∀ x : Word, (s.incrementPc 1#16).memRead x = 0x00#8 := fun x => by rw [memRead_incrementPc, hzero]
    rw [runFor_succ_of_next (step_of_opcodeAt_zero (hzero s.pc)), ih _ hzero', incrementPc_pc, hpc]
    rfl

end Sys2Proof.Machine
end

section
/-!
PROOFS. The exception table (60_exceptions.md R155).
-/

open Sys2Proof Sys2Proof.Machine Sys2Proof.Rules

namespace Sys2Proof.Machine

/-- Settles O11, by the three kinds of first byte: the escape byte and the listed bytes raise one fault each, and at
every other byte the step completes (O12), so it raises none. -/
theorem stepFaultsExactlyAsTheTable : Obligations.StepFaultsExactlyAsTheTable := by
  intro s r
  constructor
  · intro h
    by_cases hesc : opcodeAt s = Config.esc
    · exact .inr ⟨hesc, Host.Outcome.fault.inj (h.symm.trans (step_of_esc hesc))⟩
    · cases hlisted : isUnimplemented (opcodeAt s) with
      | true => exact .inl ⟨rfl, Host.Outcome.fault.inj (h.symm.trans (step_of_isUnimplemented hlisted))⟩
      | false =>
        obtain ⟨t, ht⟩ := step_completes_of_not_isUnimplemented hlisted hesc
        cases h.symm.trans ht
  · rintro (⟨hlisted, rfl⟩ | ⟨hesc, rfl⟩)
    · exact step_of_isUnimplemented hlisted
    · exact step_of_esc hesc

end Sys2Proof.Machine
end

section
/-!
PROOFS. What the host does between steps (70_reset_and_hazards.md R173, R175): its writes keep the invariant, and its load
leaves the image in memory.
-/

open Sys2Proof Sys2Proof.Machine Sys2Proof.Rules

namespace Sys2Proof.Machine

/-! ### The host's writes -/

/-- A byte cut down to its high nibble has a zero low nibble, as the mask of an AF write leaves it (10_state.md R23). -/
theorem highNibble_and_low (v : Byte) : v &&& 0xF0#8 &&& 0x0F#8 = 0#8 := by
  rw [BitVec.and_assoc]
  exact BitVec.and_zero

theorem inv_writeF {s : State} {v : Byte} (hv : v &&& 0x0F#8 = 0#8) (h : s.Inv) : (s.writeF v).Inv := ⟨hv, h.right⟩

theorem inv_writeReg8 {s : State} (r : Reg8) (v : Byte) (h : s.Inv) : (s.writeReg8 r v).Inv := by
  rwa [State.Inv, writeReg8_f, writeReg8_mem]

theorem inv_writeRp {s : State} (p : Rp) (v : Word) (h : s.Inv) : (s.writeRp p v).Inv := by
  rwa [State.Inv, writeRp_f, writeRp_mem]

/-- Settles O4, write by write: F is written with a zero low nibble by `writeF` (the host's duty) and `writeAf` (the mask),
with its own low nibble by `setFlag`; a memory write keeps the canonical form; the others touch neither F nor memory. -/
theorem dutifulHostKeepsInvariant : Obligations.DutifulHostKeepsInvariant := by
  intro s x hinv hduty
  cases x with
  | writeReg8 r v => exact inv_writeReg8 r v hinv
  | writeF v => exact inv_writeF (eq_of_beq hduty) hinv
  | writeRp p v => exact inv_writeRp p v hinv
  | writeAf v => exact inv_writeF (highNibble_and_low _) (inv_writeReg8 .a _ hinv)
  | writePc v => exact hinv
  | incrementPc delta => exact hinv
  | setFlag y v => exact inv_writeF ((putFlag_low s.f y v).trans hinv.left) hinv
  | memWrite addr v => exact ⟨hinv.left, wf_memWrite addr v hinv.right⟩

/-! ### The host's load -/

/-- By induction over the image: what its first write stores is read only where no later one stores. -/
theorem memRead_loadImage (s : State) (image : List (Word × Byte)) (x : Word) :
    (s.loadImage image).memRead x = (imageByte image x).getD (s.memRead x) := by
  induction image generalizing s with
  | nil => rfl
  | cons cell rest ih =>
    obtain ⟨addr, v⟩ := cell
    calc ((s.memWrite addr v).loadImage rest).memRead x
        = (imageByte rest x).getD (if x = addr then v else s.memRead x) := by rw [ih, memRead_memWrite]
      _ = (imageByte rest x).getD ((if x = addr then some v else none).getD (s.memRead x)) := by
          rw [apply_ite (Option.getD · (s.memRead x))]; rfl
      _ = (imageByte ((addr, v) :: rest) x).getD (s.memRead x) := Option.getD_or.symm

/-- A load writes the memory field alone. -/
theorem loadImage_eq_with_mem (s : State) (image : List (Word × Byte)) :
    s.loadImage image = { s with mem := (s.loadImage image).mem } := by
  induction image generalizing s with
  | nil => rfl
  | cons cell rest ih => exact ih (s.memWrite cell.1 cell.2)

/-- Settles O25; from reset, what was there before is 0x00 everywhere. -/
theorem loadedMemoryIsTheImage : Obligations.LoadedMemoryIsTheImage := fun s image =>
  ⟨memRead_loadImage s image, memRead_loadImage State.reset image, by rw [loadImage_eq_with_mem]⟩

end Sys2Proof.Machine
end
